-- ==== Sys2Proof/Word.lean ====
section
/-! DEFINITION. The value types of the CORE: bytes, Words, Halves, Blocks, RoundKeyGroups and the
schedule store (00_scope.md R7, R10, R12). Values only: every operation on them is in Machine/. -/

namespace Sys2Proof

/-- A byte, a value in 0 .. 255 (R10). -/
abbrev Byte := BitVec 8

/-- A byte string: a finite sequence of bytes of any length (R10). -/
abbrev Bytes := List Byte

/-- A Word: an unsigned 32-bit integer, bit 0 the least significant (R10, R11). -/
abbrev Word := BitVec 32

/-- A Half: an ordered sequence of exactly 4 Words; `w0` is element 0 (R10, R12). -/
structure Half where
  w0 : Word
  w1 : Word
  w2 : Word
  w3 : Word
deriving DecidableEq, Repr, Inhabited

/-- A Block: 8 Words, held as `B[0..3]` and `B[4..7]` (R10, R12). The Feistel driver's pair (Left, Right)
is split from a Block in the same way (R150). -/
structure Block where
  lo : Half
  hi : Half
deriving DecidableEq, Repr, Inhabited

/-- A RoundKeyGroup: exactly two Halves `(K1, K2)` (R10). -/
structure RoundKeyGroup where
  k1 : Half
  k2 : Half
deriving DecidableEq, Repr, Inhabited

/-- The schedule store `RK`: exactly 32 RoundKeyGroups (R25). At function level a schedule is a list of
groups of any length (90_conflicts.md C5). -/
abbrev Store := Vector RoundKeyGroup 32

/-- The Half of four zero Words. -/
def Half.zero : Half := ⟨0, 0, 0, 0⟩

/-- The Words of a Half in sequence order (R43). -/
def Half.words (H : Half) : List Word := [H.w0, H.w1, H.w2, H.w3]

/-- The Words of a Block in sequence order: `concat` of its two Halves (R12, R43). -/
def Block.words (B : Block) : List Word := B.lo.words ++ B.hi.words

end Sys2Proof
end

