-- ==== Sys2Proof/Syntax.lean ====
section
/-! DEFINITION. The commands, one constructor per row of spec/opcode_table.json (30_encoding.md R62). The
payload is no part of a command word (R70); it is in the state. -/

namespace Sys2Proof

/-- The 14 commands of the opcode map (R62). The only operand in a command word is IMM5 (R63). -/
inductive Instr where
  /-- ADD (R81). -/
  | add
  /-- ROTL s: `amount` is IMM5, the rotation amount (R63, R83). -/
  | rotl (amount : BitVec 5)
  /-- XOR (R85). -/
  | xor
  /-- XOR4 (R87). -/
  | xor4
  /-- ARX (R101). -/
  | arx
  /-- PHTP (R111). -/
  | phtp
  /-- PHT (R113). -/
  | pht
  /-- KSCHED (R123). -/
  | ksched
  /-- RDRK g: `group` is IMM5, the group index (R63, R127). -/
  | rdrk (group : BitVec 5)
  /-- RDSL (R128). -/
  | rdsl
  /-- RDRC (R129). -/
  | rdrc
  /-- RF (R141). -/
  | rf
  /-- ENC (R153). -/
  | enc
  /-- DEC (R154). -/
  | dec
deriving DecidableEq, Repr

end Sys2Proof
end

