-- ==== Sys2Proof/WellFormed.lean ====
section
/-! DEFINITION. Which commands a legal command word can carry. -/

namespace Sys2Proof

/-- A command is well formed when its immediate is legal: ROTL by 1 .. 31 (R63, R68), RDRK any group
0 .. 31 (R63). -/
def Instr.wf : Instr → Bool
  | .add => true
  | .rotl amount => amount != 0
  | .xor => true
  | .xor4 => true
  | .arx => true
  | .phtp => true
  | .pht => true
  | .ksched => true
  | .rdrk _ => true
  | .rdsl => true
  | .rdrc => true
  | .rf => true
  | .enc => true
  | .dec => true

end Sys2Proof
end

