-- ==== Sys2Proof/Decode.lean ====
section
/-! DEFINITION. The decoder and the encoder of the 16-bit command word (30_encoding.md R60 to R70). The
command word is a value, with no byte order (R43). -/

namespace Sys2Proof

/-- Why a command word is illegal, one name per test of R64. -/
inductive IllegalWord where
  /-- A bit of CW[15:9] is set (R66). -/
  | zeroFieldSet
  /-- OP is 0x0 or 0xF (R65). -/
  | reservedOpcode
  /-- IMM5 is not 0 in a command that takes no immediate (R67). -/
  | unusedImmediate
  /-- ROTL with IMM5 = 0 (R68). -/
  | rotationByZero
deriving DecidableEq, Repr

/-- `CW[3:0]` (R60). -/
def opField (cw : BitVec 16) : BitVec 4 := cw.extractLsb' 0 4

/-- `CW[8:4]` (R60, R63). -/
def immField (cw : BitVec 16) : BitVec 5 := cw.extractLsb' 4 5

/-- `CW[15:9]` (R60). -/
def zeroField (cw : BitVec 16) : BitVec 7 := cw.extractLsb' 9 7

/-- The row of the opcode map with this OP, given IMM5 (R62); `none` for the reserved 0x0 and 0xF (R65). -/
def opcodeRow (op : BitVec 4) (imm : BitVec 5) : Option Instr :=
  match op.toNat with
  | 0x1 => some .add
  | 0x2 => some (.rotl imm)
  | 0x3 => some .xor
  | 0x4 => some .xor4
  | 0x5 => some .arx
  | 0x6 => some .phtp
  | 0x7 => some .pht
  | 0x8 => some .ksched
  | 0x9 => some (.rdrk imm)
  | 0xA => some .rdsl
  | 0xB => some .rdrc
  | 0xC => some .rf
  | 0xD => some .enc
  | 0xE => some .dec
  | _ => none

/-- Decoding, total on the 65536 command words: the tests of R64 in their order, the first that fails
naming why the word is illegal. -/
def decode (cw : BitVec 16) : Except IllegalWord Instr :=
  if zeroField cw ≠ 0 then .error .zeroFieldSet
  else match opcodeRow (opField cw) (immField cw) with
    | none => .error .reservedOpcode
    | some i =>
      if opField cw ≠ 2 ∧ opField cw ≠ 9 ∧ immField cw ≠ 0 then .error .unusedImmediate
      else if opField cw = 2 ∧ immField cw = 0 then .error .rotationByZero
      else .ok i

/-- The opcode of a command (R62). -/
def Instr.opcode : Instr → BitVec 4
  | .add => 0x1
  | .rotl _ => 0x2
  | .xor => 0x3
  | .xor4 => 0x4
  | .arx => 0x5
  | .phtp => 0x6
  | .pht => 0x7
  | .ksched => 0x8
  | .rdrk _ => 0x9
  | .rdsl => 0xA
  | .rdrc => 0xB
  | .rf => 0xC
  | .enc => 0xD
  | .dec => 0xE

/-- The immediate of a command: 0 in the twelve that take none (R60, R63, R67). -/
def Instr.immediate : Instr → BitVec 5
  | .add => 0
  | .rotl amount => amount
  | .xor => 0
  | .xor4 => 0
  | .arx => 0
  | .phtp => 0
  | .pht => 0
  | .ksched => 0
  | .rdrk group => group
  | .rdsl => 0
  | .rdrc => 0
  | .rf => 0
  | .enc => 0
  | .dec => 0

/-- The command word of a command: ZERO, IMM5, OP from bit 15 down (R60). For the ill-formed ROTL 0 it is
the illegal word 0x0002. -/
def encode (i : Instr) : BitVec 16 := (0 : BitVec 7) ++ i.immediate ++ i.opcode

/-- The `mask` column of R62: every bit, or all but IMM5 where the command takes an immediate. -/
def Instr.wordMask : Instr → BitVec 16
  | .add => 0xFFFF
  | .rotl _ => 0xFE0F
  | .xor => 0xFFFF
  | .xor4 => 0xFFFF
  | .arx => 0xFFFF
  | .phtp => 0xFFFF
  | .pht => 0xFFFF
  | .ksched => 0xFFFF
  | .rdrk _ => 0xFE0F
  | .rdsl => 0xFFFF
  | .rdrc => 0xFFFF
  | .rf => 0xFFFF
  | .enc => 0xFFFF
  | .dec => 0xFFFF

/-- The `match` column of R62. -/
def Instr.wordMatch : Instr → BitVec 16
  | .add => 0x0001
  | .rotl _ => 0x0002
  | .xor => 0x0003
  | .xor4 => 0x0004
  | .arx => 0x0005
  | .phtp => 0x0006
  | .pht => 0x0007
  | .ksched => 0x0008
  | .rdrk _ => 0x0009
  | .rdsl => 0x000A
  | .rdrc => 0x000B
  | .rf => 0x000C
  | .enc => 0x000D
  | .dec => 0x000E

/-- The command the decoder reads from a row of spec/opcode_table.json: every row has 16 bits, the whole
command word (R70), so a number that does not fit 16 bits is no command word. -/
def decodeTableWord (_nbits w : Nat) : Option Instr :=
  if w < 2 ^ 16 then (decode (BitVec.ofNat 16 w)).toOption else none

end Sys2Proof
end

