-- ==== Sys2Proof/Config.lean ====
section
/-! DEFINITION. What the spec leaves open: the parameter RC and the free values. Each is an opaque
constant, so a theorem about it holds for every value it could have. -/

namespace Sys2Proof.Config

/-- The open parameter `RC`, the four RoundConstants `C0 .. C3`: "No property of RC may be assumed other
than that it is one fixed tuple of four 32-bit values" (R8, R23, 92_eei_decisions.md D2). -/
opaque rc : Half

/-- Free value number `k` of the schedule store: its unspecified content after a reset (R32, U4). -/
opaque freeRK : Nat → Store

/-- Free value number `k` of the transient register `KS` (R27, R32, U5). -/
opaque freeKS : Nat → Half

/-- Free value number `k` of the transient register `L` (R28, R32, U5). -/
opaque freeL : Nat → Half

/-- Free value number `k` of the transient register `R` (R28, R32, U5). -/
opaque freeR : Nat → Half

/-- Free value number `k` of the transient register `T` (R29, R32, U5). -/
opaque freeT : Nat → Half

/-- Free value number `k` of the Feistel round index `i` (R22, R32, U5). -/
opaque freeI : Nat → BitVec 5

/-- Free value number `k` of the key-Word index `j` (R22, R32, U5). -/
opaque freeJ : Nat → BitVec 3

/-- Free value number `k` of the step counter `n` (R22, R32, U5). -/
opaque freeN : Nat → BitVec 3

/-- Free value number `k` of the squeeze index `r` (R22, R32, U5). -/
opaque freeSqueezeIndex : Nat → BitVec 8

end Sys2Proof.Config
end

