-- ==== Sys2Proof/Machine/State.lean ====
section
/-! DEFINITION. The state of the CORE (10_state.md R20) as plain data, the statuses, the host's events, and
the state after reset. -/

namespace Sys2Proof.Machine

/-- The five errors a response can carry (60_exceptions.md R170). -/
inductive CoreError where
  /-- KSCHED with a payload that is not 32 bytes (R171). -/
  | invalidKeyLength
  /-- ENC or DEC with a payload that is not 32 bytes (R172). -/
  | invalidBlockLength
  /-- ENC, DEC or RDRK while SLEN is not 32 (R173). -/
  | invalidScheduleLength
  /-- An illegal command word (R174). -/
  | illegalCommand
  /-- A unit or read command with a payload of the wrong length (R178). -/
  | invalidOperandLength
deriving DecidableEq, Repr

/-- The status of a response: exactly six values (R170, 93_implementation_defined.md U7). -/
inductive Status where
  | ok
  | error (e : CoreError)
deriving DecidableEq, Repr

/-- A response: the pair (ST, POUT) (R61). -/
structure Response where
  status : Status
  payload : Bytes
deriving DecidableEq, Repr

/-- What the host can do to the CORE (70_reset_and_hazards.md R196). -/
inductive HostEvent where
  /-- Issue a command: a command word and a payload of any length (R60). -/
  | command (cw : BitVec 16) (payload : Bytes)
  /-- Assert reset between commands (R190, R191). -/
  | reset
deriving DecidableEq, Repr

/-- The state of the CORE (R20). `inbox`, `outbox` and `freeCount` are the model's own (log entries 1, 8);
`pin` is the payload of the command in progress (R40, log entry 9). -/
structure State where
  /-- `RC[0..3]`, hardwired: nothing writes it (R23, log entry 3). -/
  rc : Half
  /-- `SLEN`, the schedule length (R24). -/
  slen : BitVec 6
  /-- `RK`, the schedule store (R25). -/
  rk : Store
  /-- `KS`, transient (R27). -/
  ks : Half
  /-- `L`, transient (R28). -/
  lh : Half
  /-- `R`, transient (R28). -/
  rh : Half
  /-- `T`, transient (R29). -/
  th : Half
  /-- The Feistel round index `i`, transient (R22). -/
  idxI : BitVec 5
  /-- The key-Word index `j`, transient (R22). -/
  idxJ : BitVec 3
  /-- The step counter `n`, transient (R22). -/
  idxN : BitVec 3
  /-- The squeeze index `r`, transient (R22). -/
  idxR : BitVec 8
  /-- `PIN`, the payload of the command in progress; empty between commands (R40). -/
  pin : Bytes
  /-- The host events not yet taken, first to come first. -/
  inbox : List HostEvent
  /-- The responses delivered so far, oldest first. -/
  outbox : List Response
  /-- The number of the next free value. -/
  freeCount : Nat
deriving DecidableEq, Repr

/-- Why the machine stops with a fault. The spec has no such event: every error is a response (R175). -/
inductive Fault where
  /-- Raised by `deliver` when a command reads a Word past the end of PIN. R44 says that this cannot happen,
  since the payload length is checked first. Safe: the machine stops where no hardware behaviour is
  described, and an obligation states that no state reaches it. -/
  | payloadRange
deriving DecidableEq, Repr

/-- Why the machine refuses a command. -/
inductive Refusal where
  /-- Raised by an arm of `exec` for a command that has no meaning yet; no arm raises it now. Safe: the
  model stops where the CORE would go on. -/
  | notModelled (mnemonic : String)
deriving DecidableEq, Repr

/-- The state right after reset (R32, R190): SLEN is 0, RC is the parameter, nothing is in progress; RK and
the transients are unspecified, so each holds a free value (log entries 4, 5). -/
def State.reset : State where
  rc := Config.rc
  slen := 0
  rk := Config.freeRK 0
  ks := Config.freeKS 0
  lh := Config.freeL 0
  rh := Config.freeR 0
  th := Config.freeT 0
  idxI := Config.freeI 0
  idxJ := Config.freeJ 0
  idxN := Config.freeN 0
  idxR := Config.freeSqueezeIndex 0
  pin := []
  inbox := []
  outbox := []
  freeCount := 1

end Sys2Proof.Machine
end

