-- ==== Sys2Proof/Machine/Flags.lean ====
section
/-! DEFINITION. The CORE has no flags and no condition codes (10_state.md R30). What tells the host how a
command ended is the 8-bit status of its response; this file gives the status codes (60_exceptions.md R170). -/

namespace Sys2Proof.Machine

/-- `code(E)`: the status code of an error (R170). -/
def CoreError.code : CoreError → BitVec 8
  | .invalidKeyLength => 0x01
  | .invalidBlockLength => 0x02
  | .invalidScheduleLength => 0x03
  | .illegalCommand => 0x04
  | .invalidOperandLength => 0x05

/-- The status as the 8-bit value of R61: 0x00 is OK. -/
def Status.code : Status → BitVec 8
  | .ok => 0x00
  | .error e => e.code

/-- ST of a response (R61). -/
def Response.st (r : Response) : BitVec 8 := r.status.code

end Sys2Proof.Machine
end

