-- ==== Sys2Proof/Machine/Operands.lean ====
section
/-! DEFINITION. Payloads: byte order, the byte-addressed accesses, the Word and Half accesses over them, and
the payload length and length error of every command (20_memory.md R40 to R44, R51; 00_scope.md R14, R15). -/

namespace Sys2Proof.Machine

/-- `be32(b0, b1, b2, b3)`: the first byte is the most significant (R14, R42). -/
def be32 (b0 b1 b2 b3 : Byte) : Word := b0 ++ b1 ++ b2 ++ b3

/-- `bytes_be(w)`: bits 31:24 first (R14, R42). -/
def bytesBE (w : Word) : Bytes :=
  [w.extractLsb' 24 8, w.extractLsb' 16 8, w.extractLsb' 8 8, w.extractLsb' 0 8]

/-- `WordsOf(p)` for a byte string whose length is a multiple of 4 (R14); up to three bytes left over are
outside its domain and no command calls it on such a string (log entry 12). -/
def wordsOf : Bytes → List Word
  | b0 :: b1 :: b2 :: b3 :: rest => be32 b0 b1 b2 b3 :: wordsOf rest
  | _ => []

/-- `BytesOf(ws)` (R14). -/
def bytesOf (ws : List Word) : Bytes := ws.flatMap bytesBE

/-- `MemRead(off, n)`: the bytes at `off .. off + n - 1` of the payload `p`, where they exist (R15). -/
def memRead (off n : Nat) (p : Bytes) : Option Bytes :=
  if off + n ≤ p.length then some ((p.drop off).take n) else none

/-- `MemWrite(off, n, v)` on the response payload `p`, `n` being the length of `v` (R15). Every command
writes POUT from offset 0 upwards without a gap (R41), so `p` grows as it is written; a write that would
leave a gap is outside its domain (log entry 12). -/
def memWrite (off : Nat) (v p : Bytes) : Bytes := p.take off ++ v ++ p.drop (off + v.length)

/-- `LoadWord(k)`: Word `k` of the payload (R51). -/
def loadWord (k : Nat) (p : Bytes) : Option Word :=
  match memRead (4 * k) 4 p with
  | some [b0, b1, b2, b3] => some (be32 b0 b1 b2 b3)
  | _ => none

/-- `LoadHalf(k)`: the Half that starts at Word `k` (R51). -/
def loadHalf (k : Nat) (p : Bytes) : Option Half := do
  let a ← loadWord k p
  let b ← loadWord (k + 1) p
  let c ← loadWord (k + 2) p
  let d ← loadWord (k + 3) p
  return ⟨a, b, c, d⟩

/-- The Block that starts at Word `k`: `B[0..3]`, then `B[4..7]` (R43, R150). -/
def loadBlock (k : Nat) (p : Bytes) : Option Block := do
  let lo ← loadHalf k p
  let hi ← loadHalf (k + 4) p
  return ⟨lo, hi⟩

/-- `StoreWord(k, w)` (R51). -/
def storeWord (k : Nat) (w : Word) (p : Bytes) : Bytes := memWrite (4 * k) (bytesBE w) p

/-- `StoreHalf(k, H)`: `H[0] .. H[3]` at Words `k .. k + 3` (R51). -/
def storeHalf (k : Nat) (H : Half) (p : Bytes) : Bytes :=
  storeWord (k + 3) H.w3 (storeWord (k + 2) H.w2 (storeWord (k + 1) H.w1 (storeWord k H.w0 p)))

/-- `StoreWord(k, B[k])` for the 8 Words of a Block (R153). -/
def storeBlock (k : Nat) (B : Block) (p : Bytes) : Bytes := storeHalf (k + 4) B.hi (storeHalf k B.lo p)

/-- The required `len(PIN)` of each command (R41). -/
def payloadBytes : Instr → Nat
  | .add => 8
  | .rotl _ => 4
  | .xor => 8
  | .xor4 => 32
  | .arx => 16
  | .phtp => 8
  | .pht => 16
  | .ksched => 32
  | .rdrk _ => 0
  | .rdsl => 0
  | .rdrc => 0
  | .rf => 48
  | .enc => 32
  | .dec => 32

/-- The error of each command when `len(PIN)` is any other length (R41). -/
def payloadError : Instr → CoreError
  | .add => .invalidOperandLength
  | .rotl _ => .invalidOperandLength
  | .xor => .invalidOperandLength
  | .xor4 => .invalidOperandLength
  | .arx => .invalidOperandLength
  | .phtp => .invalidOperandLength
  | .pht => .invalidOperandLength
  | .ksched => .invalidKeyLength
  | .rdrk _ => .invalidOperandLength
  | .rdsl => .invalidOperandLength
  | .rdrc => .invalidOperandLength
  | .rf => .invalidOperandLength
  | .enc => .invalidBlockLength
  | .dec => .invalidBlockLength

end Sys2Proof.Machine
end

