-- ==== Sys2Proof/Machine/Ops.lean ====
section
/-! DEFINITION. The named operations on the state: taking a command, answering it, raising an error, reset,
the fate of the transient registers, the commit of a schedule, the checks every command begins with, and
taking the host's next event. -/

namespace Sys2Proof.Machine

/-- Deliver the one response of the command in progress and end it: the response is appended to those the
host has, and PIN, which "exists for the one command only", is empty again (R40, R61). -/
def State.respond (st : Status) (payload : Bytes) (s : State) : State :=
  { s with pin := [], outbox := s.outbox ++ [⟨st, payload⟩] }

/-- `raise E()`: the response is the error's status with an empty payload, and nothing else is written
(R15, R175). There is no return from it: no cause, address or status is saved and nothing is restored (R179). -/
def State.raise (e : CoreError) (s : State) : State := s.respond (.error e) []

/-- The command in progress has been taken: its payload is PIN and the host's next event comes after it. -/
def State.begin (pin : Bytes) (rest : List HostEvent) (s : State) : State :=
  { s with pin := pin, inbox := rest }

/-- The effect of reset: SLEN is 0; RK and every transient register become unspecified, so each takes a
fresh free value; RC is unaffected; no response (R190, R32). -/
def State.applyReset (s : State) : State :=
  { s with
    slen := 0
    rk := Config.freeRK s.freeCount
    ks := Config.freeKS s.freeCount
    lh := Config.freeL s.freeCount
    rh := Config.freeR s.freeCount
    th := Config.freeT s.freeCount
    idxI := Config.freeI s.freeCount
    idxJ := Config.freeJ s.freeCount
    idxN := Config.freeN s.freeCount
    idxR := Config.freeSqueezeIndex s.freeCount
    pin := []
    freeCount := s.freeCount + 1 }

/-- After KSCHED its transients KS, j, n and r hold nothing that may be relied on: fresh free values
(R22, R27, U5; log entry 6). -/
def State.leaveSchedule (s : State) : State :=
  { s with
    ks := Config.freeKS s.freeCount
    idxJ := Config.freeJ s.freeCount
    idxN := Config.freeN s.freeCount
    idxR := Config.freeSqueezeIndex s.freeCount
    freeCount := s.freeCount + 1 }

/-- After PHT its transient n holds a fresh free value (R20, R22, U5; log entry 6). -/
def State.leavePht (s : State) : State :=
  { s with idxN := Config.freeN s.freeCount, freeCount := s.freeCount + 1 }

/-- After RF its transients T and n hold fresh free values (R22, R29, U5; log entries 6, 7). -/
def State.leaveRound (s : State) : State :=
  { s with
    th := Config.freeT s.freeCount
    idxN := Config.freeN s.freeCount
    freeCount := s.freeCount + 1 }

/-- After ENC or DEC their transients L, R, T, i and n hold fresh free values (R22, R28, R29, U5; log
entry 6). -/
def State.leaveFeistel (s : State) : State :=
  { s with
    lh := Config.freeL s.freeCount
    rh := Config.freeR s.freeCount
    th := Config.freeT s.freeCount
    idxI := Config.freeI s.freeCount
    idxN := Config.freeN s.freeCount
    freeCount := s.freeCount + 1 }

/-- Commit: all of RK and SLEN, as one indivisible update (R126). -/
def State.commitSchedule (S : Store) (s : State) : State := { s with rk := S, slen := 32 }

/-- The payload-length check of command `i`, before anything else of it (R41, R44, R176 (2)). -/
def checkPayload (i : Instr) (s : State) (go : Host.Outcome State Fault Refusal) :
    Host.Outcome State Fault Refusal :=
  if s.pin.length ≠ payloadBytes i then .next (s.raise (payloadError i)) else go

/-- The schedule-length check of ENC, DEC and RDRK, after the payload check (R173, R176 (3)). -/
def checkSchedule (s : State) (go : Host.Outcome State Fault Refusal) :
    Host.Outcome State Fault Refusal :=
  if s.slen ≠ 32 then .next (s.raise .invalidScheduleLength) else go

/-- End a command that did not raise: status OK with the computed POUT (R15). A POUT that could not be
computed, because a Word past the end of PIN was read, stops the machine (R44: cannot happen). -/
def deliver (pout : Option Bytes) (s : State) : Host.Outcome State Fault Refusal :=
  match pout with
  | some p => .next (s.respond .ok p)
  | none => .fault .payloadRange

/-- A unit command: the payload check, then POUT computed from PIN alone (R178, 92_eei_decisions.md D11).
`leave` says what becomes of the transient registers the command wrote. -/
def unitCommand (i : Instr) (work : Bytes → Option Bytes) (leave : State → State) (s : State) :
    Host.Outcome State Fault Refusal :=
  checkPayload i s (deliver (work s.pin) (leave s))

/-- A payload of the length the command word asks for, all zero; empty for an illegal word (R41). -/
def zeroPayload (cw : BitVec 16) : Bytes :=
  match decode cw with
  | .ok i => List.replicate (payloadBytes i) 0
  | .error _ => []

/-- `s` with the host's next command the word `cw` and a zero payload of the length it asks for. -/
def State.placeCommand (cw : BitVec 16) (s : State) : State :=
  { s with inbox := .command cw (zeroPayload cw) :: s.inbox }

/-- The host's reset event has been taken: the events after it are still to come, and reset has its effect. -/
def State.takeReset (rest : List HostEvent) (s : State) : State := ({ s with inbox := rest } : State).applyReset

/-- Perform the command in progress: an illegal word raises IllegalCommand before anything else is looked
at, and a legal one is run (R64, R174, R176 (1)). -/
def issue (run : Instr → State → Host.Outcome State Fault Refusal) (cw : BitVec 16) (s : State) :
    Host.Outcome State Fault Refusal :=
  match decode cw with
  | .ok i => run i s
  | .error _ => .next (s.raise .illegalCommand)

/-- The host's next event: a command is performed whole and answered (R16), a reset has its effect and no
answer (R190), and with no event the CORE is idle and nothing changes (R186, log entry 2). -/
def takeEvent (run : Instr → State → Host.Outcome State Fault Refusal) (s : State) :
    Host.Outcome State Fault Refusal :=
  match s.inbox with
  | [] => .next s
  | .reset :: rest => .next (s.takeReset rest)
  | .command cw payload :: rest => issue run cw (s.begin payload rest)

end Sys2Proof.Machine
end

