-- ==== Sys2Proof/Machine/Arith.lean ====
section
/-! DEFINITION. Word arithmetic and its commands: ADD, ROTL, XOR, XOR4 (40_word_arithmetic.md R80 to R88). -/

namespace Sys2Proof.Machine

/-- `x +32 y`, the carry out of bit 31 dropped (R80). -/
def add32 (x y : Word) : Word := x + y

/-- `2 *32 y` (R88). -/
def double32 (y : Word) : Word := 2 * y

/-- `rotl(x, s)` for `0 < s < 32`, by the formula `((x << s) | (x >> (32 - s))) mod 2^32` (R82). It is
called with no other amount: the mixers use constants and ROTL 0 is illegal (log entry 12). -/
def rotl (x : Word) (s : Nat) : Word := (x <<< s) ||| (x >>> (32 - s))

/-- `x ^ y` (R84). -/
def xor32 (x y : Word) : Word := x ^^^ y

/-- `H ^4 G` (R86). -/
def xor4 (H G : Half) : Half :=
  ⟨xor32 H.w0 G.w0, xor32 H.w1 G.w1, xor32 H.w2 G.w2, xor32 H.w3 G.w3⟩

/-- ADD (R81). -/
def execAdd (s : State) : Host.Outcome State Fault Refusal :=
  unitCommand .add (fun pin => do
    let x ← loadWord 0 pin
    let y ← loadWord 1 pin
    return storeWord 0 (add32 x y) []) id s

/-- ROTL s (R83). The amount 0 is IllegalCommand whatever the payload (R68, R174): the decoder gives no
such command, and this meaning answers it as the command word 0x0002 is answered. -/
def execRotl (amount : BitVec 5) (s : State) : Host.Outcome State Fault Refusal :=
  if amount = 0 then .next (s.raise .illegalCommand)
  else unitCommand (.rotl amount) (fun pin => do
    let x ← loadWord 0 pin
    return storeWord 0 (rotl x amount.toNat) []) id s

/-- XOR (R85). -/
def execXor (s : State) : Host.Outcome State Fault Refusal :=
  unitCommand .xor (fun pin => do
    let x ← loadWord 0 pin
    let y ← loadWord 1 pin
    return storeWord 0 (xor32 x y) []) id s

/-- XOR4 (R87). -/
def execXor4 (s : State) : Host.Outcome State Fault Refusal :=
  unitCommand .xor4 (fun pin => do
    let H ← loadHalf 0 pin
    let G ← loadHalf 4 pin
    return storeHalf 0 (xor4 H G) []) id s

end Sys2Proof.Machine
end

