-- ==== Sys2Proof/Machine/Arx.lean ====
section
/-! DEFINITION. The ARX mixer and its command ARX (41_arx_mixer.md R100, R101). -/

namespace Sys2Proof.Machine

/-- `Arx(S)`: the eight lines of R100 in their order, each reading the newest values; the output is the
permuted tuple `[s1, s2, s3, s0]`. -/
def arx (S : Half) : Half :=
  let s0 := add32 S.w0 S.w3
  let s1 := rotl (xor32 S.w1 s0) 13
  let s2 := add32 S.w2 s1
  let s3 := rotl (xor32 S.w3 s2) 17
  let s0 := add32 s0 s3
  let s1 := rotl (xor32 s1 s0) 5
  let s2 := add32 s2 s1
  let s3 := rotl (xor32 s3 s2) 7
  ⟨s1, s2, s3, s0⟩

/-- ARX (R101). RC is not mixed in. -/
def execArx (s : State) : Host.Outcome State Fault Refusal :=
  unitCommand .arx (fun pin => do
    let S ← loadHalf 0 pin
    return storeHalf 0 (arx S) []) id s

end Sys2Proof.Machine
end

