-- ==== Sys2Proof/Machine/Pht.lean ====
section
/-! DEFINITION. The PHT mixer and its commands PHTP and PHT (42_pht_mixer.md R110 to R113). -/

namespace Sys2Proof.Machine

/-- `Pht2(x, y) = (x', y')`: `x' = x +32 y`, and `y'` adds twice `y` to `x'`, not to `x` (R110, C2). -/
def pht2 (x y : Word) : Word × Word := (add32 x y, add32 (add32 x y) (double32 y))

/-- One iteration of the mixer on `(a, b, c, d)`: the new `(a, b)` is `Pht2(a, b)` XOR `(c, d)`, the new
`(c, d)` is the old `(a, b)`, all assigned at once (R112, C8). -/
def phtIteration (T : Half) : Half :=
  let (e, f) := pht2 T.w0 T.w1
  ⟨xor32 e T.w2, xor32 f T.w3, T.w0, T.w1⟩

/-- `Pht(T)`: exactly 4 iterations, then `[c, d, a, b]` (R112). -/
def pht (T : Half) : Half :=
  let U := phtIteration^[4] T
  ⟨U.w2, U.w3, U.w0, U.w1⟩

/-- PHTP (R111). -/
def execPhtp (s : State) : Host.Outcome State Fault Refusal :=
  unitCommand .phtp (fun pin => do
    let x ← loadWord 0 pin
    let y ← loadWord 1 pin
    return storeWord 1 (pht2 x y).2 (storeWord 0 (pht2 x y).1 [])) id s

/-- PHT (R113). -/
def execPht (s : State) : Host.Outcome State Fault Refusal :=
  unitCommand .pht (fun pin => do
    let T ← loadHalf 0 pin
    return storeHalf 0 (pht T) []) State.leavePht s

end Sys2Proof.Machine
end

