-- ==== Sys2Proof/Machine/Round.lean ====
section
/-! DEFINITION. The Feistel round function and its command RF (44_round_function.md R140, R141). -/

namespace Sys2Proof.Machine

/-- `RoundF(L, K1, K2)`: XOR K1, Arx, XOR K2, Arx, Pht (R140). -/
def roundF (L K1 K2 : Half) : Half := pht (arx (xor4 (arx (xor4 L K1)) K2))

/-- RF (R141): the key Halves come from the payload, and no schedule is needed. -/
def execRf (s : State) : Host.Outcome State Fault Refusal :=
  unitCommand .rf (fun pin => do
    let L ← loadHalf 0 pin
    let K1 ← loadHalf 4 pin
    let K2 ← loadHalf 8 pin
    return storeHalf 0 (roundF L K1 K2) []) State.leaveRound s

end Sys2Proof.Machine
end

