-- ==== Sys2Proof/Machine/Feistel.lean ====
section
/-! DEFINITION. The Feistel driver and the commands ENC and DEC (45_feistel_driver.md R150 to R154). -/

namespace Sys2Proof.Machine

/-- One round on the pair (Left, Right), held as a Block: the new Left is the old Right XOR `F`, the new
Right is the old Left, assigned at once (R150, C8). -/
def feistelRound (LR : Block) (g : RoundKeyGroup) : Block :=
  ⟨xor4 LR.hi (roundF LR.lo g.k1 g.k2), LR.lo⟩

/-- `Feistel(B, S)`: one round per group of `S`, in order; the output is `concat(R, L)` (R150). With the
32 groups of a RoundKeySchedule that is 32 rounds, round `i` using `S[i]`. R150 defines the function for
exactly 32 groups only; that a list of any other length gives a value, one round per group, is the model's
choice: DESIGN CHOICE (log entry 12). `encrypt` and the commands call it with 32 groups only. -/
def feistel (B : Block) (S : List RoundKeyGroup) : Block :=
  let LR := S.foldl feistelRound B
  ⟨LR.hi, LR.lo⟩

/-- `Encrypt(block, S)`, the source's `encrypt`, for a block and a schedule of any length, with its two
checks (R151, C5). The last arm is never taken: 32 bytes hold a whole Block (log entry 12). -/
def encrypt (block : Bytes) (S : List RoundKeyGroup) : Except CoreError Bytes :=
  if block.length ≠ 32 then .error .invalidBlockLength
  else if S.length ≠ 32 then .error .invalidScheduleLength
  else match loadBlock 0 block with
    | some B => .ok (storeBlock 0 (feistel B S) [])
    | none => .error .invalidBlockLength

/-- `Decrypt(block, S)`, the source's `decrypt`: the identical driver with the entries of the schedule in
reversed order (R152). -/
def decrypt (block : Bytes) (S : List RoundKeyGroup) : Except CoreError Bytes := encrypt block S.reverse

/-- ENC (R153): round `i` uses `RK[i]`. -/
def execEnc (s : State) : Host.Outcome State Fault Refusal :=
  checkPayload .enc s
    (checkSchedule s
      (deliver ((loadBlock 0 s.pin).map fun B => storeBlock 0 (feistel B s.rk.toList) [])
        s.leaveFeistel))

/-- DEC (R154): round `i` uses `RK[31 - i]`; RK itself is not reordered. -/
def execDec (s : State) : Host.Outcome State Fault Refusal :=
  checkPayload .dec s
    (checkSchedule s
      (deliver ((loadBlock 0 s.pin).map fun B => storeBlock 0 (feistel B s.rk.toList.reverse) [])
        s.leaveFeistel))

end Sys2Proof.Machine
end

