-- ==== Sys2Proof/Machine/KeySchedule.lean ====
section
/-! DEFINITION. The key schedule engine and the commands KSCHED, RDRK, RDSL, RDRC (43_key_schedule.md R120 to
R130). Every function takes RC as an argument (00_scope.md R8). -/

namespace Sys2Proof.Machine

/-- `KStep(S) = Arx(S ^4 RC)`, the constant-mixed ARX step (R120). -/
def kStep (rc S : Half) : Half := arx (xor4 S rc)

/-- One key Word of the absorb phase: it enters element 0 only, then four steps (R122). -/
def absorbWord (rc KS : Half) (k : Word) : Half :=
  (kStep rc)^[4] { KS with w0 := xor32 KS.w0 k }

/-- Absorb: KS starts at `[0, 0, 0, 0]` and takes the key Words in order (R122). R122 has exactly 8 of
them; the value for another number is the model's choice: DESIGN CHOICE (log entry 12). -/
def absorb (rc : Half) (keyWords : List Word) : Half := keyWords.foldl (absorbWord rc) Half.zero

/-- Extend: eight steps, no key injection (R130). -/
def extend (rc KS : Half) : Half := (kStep rc)^[8] KS

/-- Squeeze `count` Words: emit `KS[0]` unmodified, then four steps (R124). The discarded round-index
perturbation has no effect and is not represented (C3, 92_eei_decisions.md D15). R124 squeezes 256; the
value for another `count` is the model's choice: DESIGN CHOICE (log entry 12). -/
def squeeze (rc : Half) : (count : Nat) → (KS : Half) → List Word
  | 0, _ => []
  | count + 1, KS => KS.w0 :: squeeze rc count ((kStep rc)^[4] KS)

/-- The output word sequence `Q[0..255]` of a 32-byte key (R121, R122, R130, R124). The value for a key of
another length is the model's choice: DESIGN CHOICE (log entry 12). -/
def squeezedWords (rc : Half) (key : Bytes) : List Word :=
  squeeze rc 256 (extend rc (absorb rc (wordsOf key)))

/-- Partition Words into Halves of 4 in emission order and pair consecutive Halves into groups (R125). R125
does this to 256 Words; that up to seven Words left over are dropped, and the value for any other number of
Words, is the model's choice: DESIGN CHOICE (log entry 12). -/
def groupsOf : List Word → List RoundKeyGroup
  | a :: b :: c :: d :: e :: f :: g :: h :: rest => ⟨⟨a, b, c, d⟩, ⟨e, f, g, h⟩⟩ :: groupsOf rest
  | _ => []

theorem squeeze_length (rc : Half) (count : Nat) (KS : Half) : (squeeze rc count KS).length = count := by
  induction count generalizing KS with
  | zero => rfl
  | succ count ih => simp [squeeze, ih]

theorem groupsOf_length (ws : List Word) : (groupsOf ws).length = ws.length / 8 := by
  induction ws using groupsOf.induct with
  | case1 a b c d e f g h rest ih => simp [groupsOf, ih]; omega
  | case2 ws short =>
    rcases ws with _ | ⟨a, _ | ⟨b, _ | ⟨c, _ | ⟨d, _ | ⟨e, _ | ⟨f, _ | ⟨g, _ | ⟨h, rest⟩⟩⟩⟩⟩⟩⟩⟩
    · simp [groupsOf]
    · simp [groupsOf]
    · simp [groupsOf]
    · simp [groupsOf]
    · simp [groupsOf]
    · simp [groupsOf]
    · simp [groupsOf]
    · simp [groupsOf]
    · exact (short a b c d e f g h rest rfl).elim

/-- The RoundKeySchedule of a 32-byte key: 256 squeezed Words as 32 groups (R125, C1). R121 rejects a key of
any other length before it is called; the value for one is the model's choice: DESIGN CHOICE
(log entry 12). -/
def deriveStore (rc : Half) (key : Bytes) : Store :=
  ⟨(groupsOf (squeezedWords rc key)).toArray, by
    simp [groupsOf_length, squeezedWords, squeeze_length]⟩

/-- `DeriveSchedule(key)`, the source's `derive_schedule`: the key length is checked before any mixing
begins (R121). -/
def deriveSchedule (rc : Half) (key : Bytes) : Except CoreError Store :=
  if key.length ≠ 32 then .error .invalidKeyLength else .ok (deriveStore rc key)

/-- KSCHED (R123): on success RK and SLEN are committed and POUT is empty; on InvalidKeyLength nothing is
written (R126, R171). -/
def execKsched (s : State) : Host.Outcome State Fault Refusal :=
  match deriveSchedule s.rc s.pin with
  | .error e => .next (s.raise e)
  | .ok S => .next ((s.leaveSchedule.commitSchedule S).respond .ok [])

/-- RDRK g (R127): K1, then K2, of group `g`. -/
def execRdrk (group : BitVec 5) (s : State) : Host.Outcome State Fault Refusal :=
  checkPayload (.rdrk group) s
    (checkSchedule s
      (.next (s.respond .ok
        (storeHalf 4 (s.rk.get group.toFin).k2 (storeHalf 0 (s.rk.get group.toFin).k1 [])))))

/-- RDSL (R128): `zext_32(SLEN)`. -/
def execRdsl (s : State) : Host.Outcome State Fault Refusal :=
  checkPayload .rdsl s (.next (s.respond .ok (storeWord 0 (s.slen.setWidth 32) [])))

/-- RDRC (R129). -/
def execRdrc (s : State) : Host.Outcome State Fault Refusal :=
  checkPayload .rdrc s (.next (s.respond .ok (storeHalf 0 s.rc [])))

end Sys2Proof.Machine
end

