-- ==== Sys2Proof/Machine/Dispatch.lean ====
section
/-! DEFINITION. The meaning of each command, one arm per constructor of Instr. -/

namespace Sys2Proof.Machine

/-- Perform the command `i`, whose payload is `s.pin`: the whole command as one atomic step (R16, R45). -/
def exec (i : Instr) (s : State) : Host.Outcome State Fault Refusal :=
  match i with
  | .add => Sys2Proof.Machine.execAdd s
  | .rotl amount => Sys2Proof.Machine.execRotl amount s
  | .xor => Sys2Proof.Machine.execXor s
  | .xor4 => Sys2Proof.Machine.execXor4 s
  | .arx => Sys2Proof.Machine.execArx s
  | .phtp => Sys2Proof.Machine.execPhtp s
  | .pht => Sys2Proof.Machine.execPht s
  | .ksched => Sys2Proof.Machine.execKsched s
  | .rdrk group => Sys2Proof.Machine.execRdrk group s
  | .rdsl => Sys2Proof.Machine.execRdsl s
  | .rdrc => Sys2Proof.Machine.execRdrc s
  | .rf => Sys2Proof.Machine.execRf s
  | .enc => Sys2Proof.Machine.execEnc s
  | .dec => Sys2Proof.Machine.execDec s

end Sys2Proof.Machine
end

