-- ==== Sys2Proof/Machine/Step.lean ====
section
/-! DEFINITION. One step of the CORE: it takes the host's next event (00_scope.md R16, 70_reset_and_hazards.md
R196). -/

namespace Sys2Proof.Machine

/-- One step: the host's next event, its command performed by `exec` (R16). -/
def step (s : State) : Host.Outcome State Fault Refusal := takeEvent exec s

/-- `s` with the command word `w` as the host's next command, its payload zeros of the length the command
asks for. The word is the whole instruction of the table (R70); the payload, which the host chooses, plays
the part of operand words of zeros (log entry 1). -/
def State.withFetchWord (s : State) (_nbits w : Nat) : State := s.placeCommand (BitVec.ofNat 16 w)

end Sys2Proof.Machine
end

