-- ==== Sys2Proof/Safety.lean ====
section
/-! DEFINITION. What claims call a safe run: the state invariant, the response lengths and
going on; and the shapes of answer that the statements speak of. -/

namespace Sys2Proof.Machine

/-- `len(POUT)` of each command on success (20_memory.md R41). -/
def responseBytes : Instr → Nat
  | .add => 4
  | .rotl _ => 4
  | .xor => 4
  | .xor4 => 16
  | .arx => 16
  | .phtp => 8
  | .pht => 16
  | .ksched => 0
  | .rdrk _ => 32
  | .rdsl => 4
  | .rdrc => 16
  | .rf => 16
  | .enc => 32
  | .dec => 32

/-- The commands that need a schedule (R173). -/
def needsSchedule : Instr → Bool
  | .add => false
  | .rotl _ => false
  | .xor => false
  | .xor4 => false
  | .arx => false
  | .phtp => false
  | .pht => false
  | .ksched => false
  | .rdrk _ => true
  | .rdsl => false
  | .rdrc => false
  | .rf => false
  | .enc => true
  | .dec => true

/-- SLEN is 0 or 32 (R24). -/
def State.slenLegal (s : State) : Prop := s.slen = 0 ∨ s.slen = 32

/-- While a schedule is present it is the one some 32-byte key derives: the store "holds only schedules made
by KSCHED" (R24, R31, 92_eei_decisions.md D6). -/
def State.scheduleDerived (s : State) : Prop :=
  s.slen = 32 → ∃ key : Bytes, key.length = 32 ∧ s.rk = deriveStore s.rc key

/-- Every response that is not OK has an empty payload (R61). -/
def State.errorsEmpty (s : State) : Prop := ∀ r ∈ s.outbox, r.status ≠ .ok → r.payload = []

/-- The invariant of the machine between commands; no payload outlives its command (R40). -/
def State.Inv (s : State) : Prop :=
  s.slenLegal ∧ s.scheduleDerived ∧ s.errorsEmpty ∧ s.pin = []

/-- The machine goes on: its step is neither a fault nor a refusal. -/
def State.goesOn (s : State) : Prop := ∃ t, step s = .next t

/-- The only legal command word with this OP is `w`, and it is the command `i` (R62, R64, R67). -/
def IsOnlyWord (w : BitVec 16) (i : Instr) : Prop :=
  decode w = .ok i ∧
    ∀ cw : BitVec 16, cw.extractLsb' 0 4 = w.extractLsb' 0 4 → cw ≠ w → ∃ e, decode cw = .error e

/-- `s` with the command answered by the error `e`: an empty payload, and nothing else written. -/
def Failed (s : State) (e : CoreError) : State :=
  { s with pin := [], outbox := s.outbox ++ [⟨.error e, []⟩] }

/-- `s` with the command answered by OK and the Words `ws`, and nothing else written. -/
def Answered (s : State) (ws : List Word) : State :=
  { s with pin := [], outbox := s.outbox ++ [⟨.ok, bytesOf ws⟩] }

end Sys2Proof.Machine
end

