-- ==== Sys2Proof/Certificates/Slice0/Obligations.lean ====
section
/-! DEFINITION. The statements for the provers. A state `s` given to `exec` has the payload of the command in
`s.pin`; the response is the last entry of `outbox`. Each result is written with the whole next state, so
that it is also the frame. Command words and status codes are the spec's decisions D3 and D4, and no fact
about the repository the cipher comes from (92_eei_decisions.md). -/

open Sys2Proof Sys2Proof.Machine

/-! ## The command word -/

/-- Decoding an encoded command gives it back, with every legal immediate (R62, R63). -/
def Obligations.DecodeInvertsEncode : Prop := ∀ i : Instr, i.wf = true → decode (encode i) = .ok i

/-- A word that decodes is the encoding of the well-formed command it decodes to (R64, R69). -/
def Obligations.EncodeInvertsDecode : Prop :=
  ∀ (cw : BitVec 16) (i : Instr), decode cw = .ok i → i.wf = true ∧ encode i = cw

/-- The opcode map of R62: which words select each command by `CW & mask = match` and the extra condition;
the two reserved opcodes; 75 legal words. -/
def Obligations.OpcodeMapOfR62 : Prop :=
  (∀ cw, decode cw = .ok .add ↔ cw &&& 0xFFFF = 0x0001) ∧
  (∀ cw a, decode cw = .ok (.rotl a) ↔ cw &&& 0xFE0F = 0x0002 ∧ a = cw.extractLsb' 4 5 ∧ a ≠ 0) ∧
  (∀ cw, decode cw = .ok .xor ↔ cw &&& 0xFFFF = 0x0003) ∧
  (∀ cw, decode cw = .ok .xor4 ↔ cw &&& 0xFFFF = 0x0004) ∧
  (∀ cw, decode cw = .ok .arx ↔ cw &&& 0xFFFF = 0x0005) ∧
  (∀ cw, decode cw = .ok .phtp ↔ cw &&& 0xFFFF = 0x0006) ∧
  (∀ cw, decode cw = .ok .pht ↔ cw &&& 0xFFFF = 0x0007) ∧
  (∀ cw, decode cw = .ok .ksched ↔ cw &&& 0xFFFF = 0x0008) ∧
  (∀ cw g, decode cw = .ok (.rdrk g) ↔ cw &&& 0xFE0F = 0x0009 ∧ g = cw.extractLsb' 4 5) ∧
  (∀ cw, decode cw = .ok .rdsl ↔ cw &&& 0xFFFF = 0x000A) ∧
  (∀ cw, decode cw = .ok .rdrc ↔ cw &&& 0xFFFF = 0x000B) ∧
  (∀ cw, decode cw = .ok .rf ↔ cw &&& 0xFFFF = 0x000C) ∧
  (∀ cw, decode cw = .ok .enc ↔ cw &&& 0xFFFF = 0x000D) ∧
  (∀ cw, decode cw = .ok .dec ↔ cw &&& 0xFFFF = 0x000E) ∧
  (∀ cw : BitVec 16, cw.extractLsb' 0 4 = 0x0 ∨ cw.extractLsb' 0 4 = 0xF → ∃ e, decode cw = .error e) ∧
  ∃ legal : List (BitVec 16), legal.Nodup ∧ legal.length = 75 ∧
    ∀ cw, cw ∈ legal ↔ ∃ i, decode cw = .ok i

/-- Decoding is total and a word is illegal exactly under one of the tests of R64; otherwise the command is
the row with that OP, its immediate IMM5; an illegal word is answered IllegalCommand, code 0x04, whatever
the payload, with no state change (R64 to R67). -/
def Obligations.IllegalWordsOfR64 : Prop :=
  (∀ cw : BitVec 16,
    ((∃ e, decode cw = .error e) ↔
      (cw.extractLsb' 9 7 ≠ 0 ∨
        (cw.extractLsb' 0 4 = 0x0 ∨ cw.extractLsb' 0 4 = 0xF) ∨
        (cw.extractLsb' 0 4 ≠ 0x2 ∧ cw.extractLsb' 0 4 ≠ 0x9 ∧ cw.extractLsb' 4 5 ≠ 0) ∨
        (cw.extractLsb' 0 4 = 0x2 ∧ cw.extractLsb' 4 5 = 0))) ∧
    (∀ i, decode cw = .ok i → i.opcode = cw.extractLsb' 0 4 ∧ i.immediate = cw.extractLsb' 4 5)) ∧
  (∃ e, decode 0x0000 = .error e) ∧ (∃ e, decode 0xFFFF = .error e) ∧
  CoreError.illegalCommand.code = 0x04 ∧
  ∀ (s : State) (cw : BitVec 16) (payload : Bytes) (rest : List HostEvent) (e : IllegalWord),
    s.inbox = .command cw payload :: rest → decode cw = .error e →
      step s = .next (Failed { s with inbox := rest } .illegalCommand)

/-- IllegalCommand is raised exactly when the command word is illegal: a bit of CW[15:9] set, OP 0x0 or 0xF,
an immediate in a command other than ROTL and RDRK, or ROTL with IMM5 = 0 (R174). -/
def Obligations.IllegalCommandExactly : Prop :=
  ∀ (s : State) (cw : BitVec 16) (payload : Bytes) (rest : List HostEvent),
    s.inbox = .command cw payload :: rest →
      ∃ t r, step s = .next t ∧ t.outbox = s.outbox ++ [r] ∧
        (r.status = .error .illegalCommand ↔
          (cw.extractLsb' 9 7 ≠ 0 ∨
            (cw.extractLsb' 0 4 = 0x0 ∨ cw.extractLsb' 0 4 = 0xF) ∨
            (cw.extractLsb' 4 5 ≠ 0 ∧ cw.extractLsb' 0 4 ≠ 0x2 ∧ cw.extractLsb' 0 4 ≠ 0x9) ∨
            (cw.extractLsb' 0 4 = 0x2 ∧ cw.extractLsb' 4 5 = 0)))

/-- A few words written out from R60 and R62: ROTL 13, RDRK 31, DEC, ENC with an immediate. -/
def Obligations.SampleWordsDecode : Prop :=
  decode 0b0000000_01101_0010 = .ok (.rotl 13) ∧ decode 0b0000000_11111_1001 = .ok (.rdrk 31) ∧
  decode 0b0000000_00000_1110 = .ok .dec ∧ ∃ e, decode 0b0000000_00001_1101 = .error e

/-! ## Steps, reset -/

/-- A step performs the host's next event: a command whose word decodes to `i` is `exec i` with the payload
as PIN; with no event the CORE stays as it is. That a host event is an entry of `inbox` is the model's
choice (log entries 1, 2, 9). -/
def Obligations.StepRunsDecodedCommand : Prop :=
  (∀ (s : State) (cw : BitVec 16) (payload : Bytes) (rest : List HostEvent) (i : Instr),
    s.inbox = .command cw payload :: rest → decode cw = .ok i →
      step s = exec i { s with inbox := rest, pin := payload }) ∧
  ∀ s : State, s.inbox = [] → step s = .next s

/-- Reset sets SLEN to 0, leaves RC, and gives no response; then RDSL reads 00000000, the commands that need
a schedule answer InvalidScheduleLength to a well-formed payload, and every other command works (R190). -/
def Obligations.ResetEffect : Prop :=
  ∀ (s : State) (rest : List HostEvent), s.inbox = .reset :: rest →
    ∃ t, step s = .next t ∧ t.slen = 0 ∧ t.rc = s.rc ∧ t.outbox = s.outbox ∧ t.inbox = rest ∧
      exec .rdsl t = .next (Answered t [0]) ∧
      ∀ (i : Instr) (p : Bytes), i.wf = true → p.length = payloadBytes i →
        (needsSchedule i = true →
          exec i { t with pin := p } = .next (Failed t .invalidScheduleLength)) ∧
        (needsSchedule i = false →
          ∃ u q, exec i { t with pin := p } = .next u ∧ u.outbox = t.outbox ++ [⟨.ok, q⟩])

/-- After reset SLEN is 0 and RC is the parameter (R32), and the invariant holds. That the queues are empty
at reset is the model's choice (log entry 1). -/
def Obligations.ResetMeetsInvariant : Prop :=
  State.reset.Inv ∧ State.reset.slen = 0 ∧ State.reset.rc = Config.rc

/-! ## The commands -/

/-- ADD (R80, R81). -/
def Obligations.AddCommand : Prop :=
  IsOnlyWord 0x0001 .add ∧
  ∀ s : State,
    (s.pin.length ≠ 8 → exec .add s = .next (Failed s .invalidOperandLength)) ∧
    ∀ x y : Word, s.pin = bytesOf [x, y] →
      exec .add s = .next (Answered s [BitVec.ofNat 32 ((x.toNat + y.toNat) % 2 ^ 32)])

/-- ROTL s (R83, with the rotation bit by bit as in R82); ROTL with IMM5 = 0 is illegal (R68). -/
def Obligations.RotlCommand : Prop :=
  (∀ a : BitVec 5, a ≠ 0 → decode (BitVec.ofNat 16 (0x0002 + 16 * a.toNat)) = .ok (.rotl a)) ∧
  (∀ cw : BitVec 16, cw.extractLsb' 0 4 = 0x2 → (cw.extractLsb' 4 5 = 0 ∨ cw.extractLsb' 9 7 ≠ 0) →
    ∃ e, decode cw = .error e) ∧
  ∀ (s : State) (a : BitVec 5), a ≠ 0 →
    (s.pin.length ≠ 4 → exec (.rotl a) s = .next (Failed s .invalidOperandLength)) ∧
    ∀ x : Word, s.pin = bytesOf [x] →
      ∃ y : Word, exec (.rotl a) s = .next (Answered s [y]) ∧
        ∀ k < 32, y.getLsbD ((k + a.toNat) % 32) = x.getLsbD k

/-- XOR, bit by bit (R84, R85). -/
def Obligations.XorCommand : Prop :=
  IsOnlyWord 0x0003 .xor ∧
  ∀ s : State,
    (s.pin.length ≠ 8 → exec .xor s = .next (Failed s .invalidOperandLength)) ∧
    ∀ x y : Word, s.pin = bytesOf [x, y] →
      ∃ z : Word, exec .xor s = .next (Answered s [z]) ∧
        ∀ k < 32, (z.getLsbD k = true ↔ x.getLsbD k ≠ y.getLsbD k)

/-- XOR4 (R86, R87). -/
def Obligations.XorFourCommand : Prop :=
  IsOnlyWord 0x0004 .xor4 ∧
  ∀ s : State,
    (s.pin.length ≠ 32 → exec .xor4 s = .next (Failed s .invalidOperandLength)) ∧
    ∀ H G : Half, s.pin = bytesOf (H.words ++ G.words) →
      exec .xor4 s =
        .next (Answered s [H.w0 ^^^ G.w0, H.w1 ^^^ G.w1, H.w2 ^^^ G.w2, H.w3 ^^^ G.w3])

/-- ARX, by the equations of R100 without reassignment (R100, R101). -/
def Obligations.ArxCommand : Prop :=
  IsOnlyWord 0x0005 .arx ∧
  ∀ s : State,
    (s.pin.length ≠ 16 → exec .arx s = .next (Failed s .invalidOperandLength)) ∧
    ∀ a0 b0 c0 d0 a1 b1 c1 d1 a2 b2 c2 d2 : Word,
      s.pin = bytesOf [a0, b0, c0, d0] →
      a1 = a0 + d0 → b1 = (b0 ^^^ a1).rotateLeft 13 → c1 = c0 + b1 → d1 = (d0 ^^^ c1).rotateLeft 17 →
      a2 = a1 + d1 → b2 = (b1 ^^^ a2).rotateLeft 5 → c2 = c1 + b2 → d2 = (d1 ^^^ c2).rotateLeft 7 →
      exec .arx s = .next (Answered s [b2, c2, d2, a2])

/-- PHTP, by the formula `x' = x + y`, `y' = x' + (2y mod 2^32)`, all mod 2^32 (R110, R111). -/
def Obligations.PhtpCommand : Prop :=
  IsOnlyWord 0x0006 .phtp ∧
  ∀ s : State,
    (s.pin.length ≠ 8 → exec .phtp s = .next (Failed s .invalidOperandLength)) ∧
    ∀ x y x' y' : Word, s.pin = bytesOf [x, y] →
      x'.toNat = (x.toNat + y.toNat) % 2 ^ 32 →
      y'.toNat = (x'.toNat + 2 * y.toNat % 2 ^ 32) % 2 ^ 32 →
      exec .phtp s = .next (Answered s [x', y'])

/-- PHT, by the recurrence of R112 without reassignment (R112, R113). It may change the transient `n` and
nothing else of the CORE (R20, R22); what it leaves there is open (log entry 6). -/
def Obligations.PhtCommand : Prop :=
  IsOnlyWord 0x0007 .pht ∧
  ∀ s : State,
    (s.pin.length ≠ 16 → exec .pht s = .next (Failed s .invalidOperandLength)) ∧
    ∀ a b c d e f : Nat → Word, s.pin = bytesOf [a 0, b 0, c 0, d 0] →
      (∀ n, e n = a n + b n ∧ f n = e n + 2 * b n ∧ a (n + 1) = e n ^^^ c n ∧
        b (n + 1) = f n ^^^ d n ∧ c (n + 1) = a n ∧ d (n + 1) = b n) →
      ∃ t, exec .pht s = .next t ∧
        t = { Answered s [c 4, d 4, a 4, b 4] with idxN := t.idxN, freeCount := t.freeCount }

/-- RF (R140, R141). It may change the transients T and `n` and nothing else of the CORE (R20, R22); what it
leaves there is open (log entries 6, 7). -/
def Obligations.RfCommand : Prop :=
  IsOnlyWord 0x000C .rf ∧
  ∀ s : State,
    (s.pin.length ≠ 48 → exec .rf s = .next (Failed s .invalidOperandLength)) ∧
    ∀ L K1 K2 : Half, s.pin = bytesOf (L.words ++ K1.words ++ K2.words) →
      ∃ t, exec .rf s = .next t ∧
        t = { Answered s (pht (arx (xor4 (arx (xor4 L K1)) K2))).words with
          th := t.th, idxN := t.idxN, freeCount := t.freeCount }

/-- KSCHED (R123, R126, R171). On success it may also change the transients KS, `j`, `n`, `r`; what it leaves
there is open (log entry 6). -/
def Obligations.KschedCommand : Prop :=
  IsOnlyWord 0x0008 .ksched ∧
  ∀ s : State,
    (s.pin.length ≠ 32 → exec .ksched s = .next (Failed s .invalidKeyLength)) ∧
    (s.pin.length = 32 →
      ∃ t S, exec .ksched s = .next t ∧ deriveSchedule s.rc s.pin = .ok S ∧
        t = { Answered s [] with
          rk := S, slen := 32, ks := t.ks, idxJ := t.idxJ, idxN := t.idxN, idxR := t.idxR,
          freeCount := t.freeCount })

/-- RDRK g (R127). -/
def Obligations.RdrkCommand : Prop :=
  (∀ g : BitVec 5, decode (BitVec.ofNat 16 (0x0009 + 16 * g.toNat)) = .ok (.rdrk g)) ∧
  (∀ cw : BitVec 16, cw.extractLsb' 0 4 = 0x9 → cw.extractLsb' 9 7 ≠ 0 → ∃ e, decode cw = .error e) ∧
  ∀ (s : State) (g : BitVec 5),
    (s.pin.length ≠ 0 → exec (.rdrk g) s = .next (Failed s .invalidOperandLength)) ∧
    (s.pin.length = 0 → s.slen ≠ 32 →
      exec (.rdrk g) s = .next (Failed s .invalidScheduleLength)) ∧
    ∀ G : RoundKeyGroup, s.pin.length = 0 → s.slen = 32 → s.rk.toList[g.toNat]? = some G →
      exec (.rdrk g) s = .next (Answered s (G.k1.words ++ G.k2.words))

/-- RDSL (R128): SLEN as a Word, and in a state with the legal values of SLEN (R24) only 00000000 or
00000020. -/
def Obligations.RdslCommand : Prop :=
  IsOnlyWord 0x000A .rdsl ∧
  ∀ s : State,
    (s.pin.length ≠ 0 → exec .rdsl s = .next (Failed s .invalidOperandLength)) ∧
    (s.pin.length = 0 → exec .rdsl s = .next (Answered s [BitVec.ofNat 32 s.slen.toNat])) ∧
    (s.pin.length = 0 → s.slenLegal →
      exec .rdsl s = .next (Answered s [0x00000000]) ∨ exec .rdsl s = .next (Answered s [0x00000020]))

/-- RDRC (R129): the same response at every time, since no step changes RC (R23). -/
def Obligations.RdrcCommand : Prop :=
  IsOnlyWord 0x000B .rdrc ∧
  ∀ s : State,
    (s.pin.length ≠ 0 → exec .rdrc s = .next (Failed s .invalidOperandLength)) ∧
    (s.pin.length = 0 → exec .rdrc s = .next (Answered s [s.rc.w0, s.rc.w1, s.rc.w2, s.rc.w3])) ∧
    ∀ t : State, step s = .next t → t.rc = s.rc

/-- ENC (R153). The block length is checked before the schedule length (R176, the spec's decision D13). It
may change the transients L, R, T, `i`, `n` and nothing else of the CORE; what it leaves there is open (log
entry 6). -/
def Obligations.EncCommand : Prop :=
  IsOnlyWord 0x000D .enc ∧
  ∀ s : State,
    (s.pin.length ≠ 32 → exec .enc s = .next (Failed s .invalidBlockLength)) ∧
    (s.pin.length = 32 → s.slen ≠ 32 → exec .enc s = .next (Failed s .invalidScheduleLength)) ∧
    ∀ B : Block, s.pin = bytesOf B.words → s.slen = 32 →
      ∃ t, exec .enc s = .next t ∧
        t = { Answered s (feistel B s.rk.toList).words with
          lh := t.lh, rh := t.rh, th := t.th, idxI := t.idxI, idxN := t.idxN, freeCount := t.freeCount }

/-- DEC (R154): the same driver on the reversed schedule, RK itself unchanged; the checks in the order of ENC
(D13). It may change the transients L, R, T, `i`, `n` and nothing else of the CORE; what it leaves there is
open (log entry 6). -/
def Obligations.DecCommand : Prop :=
  IsOnlyWord 0x000E .dec ∧
  ∀ s : State,
    (s.pin.length ≠ 32 → exec .dec s = .next (Failed s .invalidBlockLength)) ∧
    (s.pin.length = 32 → s.slen ≠ 32 → exec .dec s = .next (Failed s .invalidScheduleLength)) ∧
    ∀ B : Block, s.pin = bytesOf B.words → s.slen = 32 →
      ∃ t, exec .dec s = .next t ∧
        t = { Answered s (feistel B s.rk.toList.reverse).words with
          lh := t.lh, rh := t.rh, th := t.th, idxI := t.idxI, idxN := t.idxN, freeCount := t.freeCount }

/-! ## Errors and responses -/

/-- One response for every command, legal or not, and an empty payload with every error (R61). -/
def Obligations.OneResponsePerCommand : Prop :=
  ∀ (s : State) (cw : BitVec 16) (payload : Bytes) (rest : List HostEvent),
    s.inbox = .command cw payload :: rest →
      ∃ t r, step s = .next t ∧ t.inbox = rest ∧ t.outbox = s.outbox ++ [r] ∧
        (r.st ≠ 0x00 → r.payload.length = 0)

/-- The one error a command reports: first the command word, then the payload length, then the schedule
length; only if none applies is the answer OK (R176; the order is the spec's decision D13). -/
def Obligations.OrderOfChecks : Prop :=
  ∀ (s : State) (cw : BitVec 16) (payload : Bytes) (rest : List HostEvent),
    s.inbox = .command cw payload :: rest →
      ∃ t r, step s = .next t ∧ t.outbox = s.outbox ++ [r] ∧
        r.status =
          match decode cw with
          | .error _ => .error .illegalCommand
          | .ok i =>
            if payload.length ≠ payloadBytes i then
              .error (if i = .ksched then .invalidKeyLength
                else if i = .enc ∨ i = .dec then .invalidBlockLength else .invalidOperandLength)
            else if needsSchedule i = true ∧ s.slen ≠ 32 then
              .error .invalidScheduleLength
            else .ok

/-- InvalidKeyLength exactly for KSCHED, and InvalidBlockLength exactly for ENC and DEC, with a payload that
is not 32 bytes; a KSCHED that fails so writes no register (R171, R172). -/
def Obligations.KeyAndBlockLengthErrors : Prop :=
  ∀ (i : Instr) (s t : State) (r : Response), exec i s = .next t → t.outbox = s.outbox ++ [r] →
    (r.status = .error .invalidKeyLength ↔ i = .ksched ∧ s.pin.length ≠ 32) ∧
    (r.status = .error .invalidBlockLength ↔ (i = .enc ∨ i = .dec) ∧ s.pin.length ≠ 32) ∧
    (r.status = .error .invalidKeyLength → t = Failed s .invalidKeyLength)

/-- InvalidOperandLength exactly for the eleven unit and read commands with a payload of another length than
8, 4, 8, 32, 16, 8, 16, 48, 0, 0, 0 (R178). -/
def Obligations.OperandLengthError : Prop :=
  ∀ (i : Instr) (s t : State) (r : Response), i.wf = true → exec i s = .next t →
    t.outbox = s.outbox ++ [r] →
    (r.status = .error .invalidOperandLength ↔
      (i = .add ∧ s.pin.length ≠ 8) ∨ ((∃ a, i = .rotl a) ∧ s.pin.length ≠ 4) ∨
      (i = .xor ∧ s.pin.length ≠ 8) ∨ (i = .xor4 ∧ s.pin.length ≠ 32) ∨
      (i = .arx ∧ s.pin.length ≠ 16) ∨ (i = .phtp ∧ s.pin.length ≠ 8) ∨
      (i = .pht ∧ s.pin.length ≠ 16) ∨ (i = .rf ∧ s.pin.length ≠ 48) ∨
      ((∃ g, i = .rdrk g) ∧ s.pin.length ≠ 0) ∨ (i = .rdsl ∧ s.pin.length ≠ 0) ∨
      (i = .rdrc ∧ s.pin.length ≠ 0))

/-- InvalidScheduleLength exactly for ENC and DEC with 32 bytes and RDRK with none while SLEN is not 32,
which, SLEN being legal, means SLEN = 0 (R173, R24). -/
def Obligations.ScheduleLengthError : Prop :=
  ∀ (i : Instr) (s t : State) (r : Response), exec i s = .next t → t.outbox = s.outbox ++ [r] →
    (r.status = .error .invalidScheduleLength ↔
      (((i = .enc ∨ i = .dec) ∧ s.pin.length = 32) ∨ ((∃ g, i = .rdrk g) ∧ s.pin.length = 0)) ∧
        s.slen ≠ 32) ∧
    (s.slenLegal → r.status = .error .invalidScheduleLength → s.slen = 0)

/-- An error changes nothing: the response is its code with an empty payload, and every register, RK and SLEN
among them, is as it was (R175). -/
def Obligations.ErrorChangesNothing : Prop :=
  ∀ (s t : State) (cw : BitVec 16) (payload : Bytes) (rest : List HostEvent) (r : Response) (e : CoreError),
    s.inbox = .command cw payload :: rest → step s = .next t → t.outbox = s.outbox ++ [r] →
    r.status = .error e → r = ⟨.error e, []⟩ ∧ t = Failed { s with inbox := rest } e

/-- Which command can return which status code (R183, the spec's own derivation, with the codes of R170). -/
def Obligations.StatusesOfEachCommand : Prop :=
  ∀ (i : Instr) (s t : State) (r : Response), i.wf = true → exec i s = .next t →
    t.outbox = s.outbox ++ [r] →
    r.st = 0x00 ∨
      (i = .ksched ∧ r.st = 0x01) ∨
      ((i = .enc ∨ i = .dec) ∧ (r.st = 0x02 ∨ r.st = 0x03)) ∨
      ((∃ g, i = .rdrk g) ∧ (r.st = 0x05 ∨ r.st = 0x03)) ∨
      (i ≠ .ksched ∧ i ≠ .enc ∧ i ≠ .dec ∧ r.st = 0x05)

/-- The payload lengths of responses: the command's own on OK, 0 on an error (R41, the spec's own
derivation). -/
def Obligations.ResponseLengths : Prop :=
  ∀ (i : Instr) (s t : State) (r : Response), exec i s = .next t → t.outbox = s.outbox ++ [r] →
    r.payload.length = if r.status = .ok then responseBytes i else 0

/-! ## The whole machine -/

/-- Every step keeps the invariant: SLEN is 0 or 32, a present schedule is derived from some 32-byte key,
errors have empty payloads, no payload outlives its command (R24, R31, R61, R40). -/
def Obligations.StepKeepsInvariant : Prop := ∀ s t : State, s.Inv → step s = .next t → t.Inv

/-- No state stops the machine: every step and every command ends in a next state (R16, R175, R183; that an
idle step stays is log entry 2). -/
def Obligations.MachineNeverStops : Prop :=
  (∀ s : State, s.goesOn) ∧ ∀ (i : Instr) (s : State), ∃ t, exec i s = .next t

/-- What each command leaves unchanged: RC always; RK and SLEN but for KSCHED; KS, `j`, `r` but for KSCHED;
L, R, `i` but for ENC and DEC; T but for RF, ENC and DEC; `n` but for the commands that step or iterate;
the responses already given; the host's further events (R20, R31). -/
def Obligations.CommandFrame : Prop :=
  ∀ (i : Instr) (s t : State), exec i s = .next t →
    t.rc = s.rc ∧ t.inbox = s.inbox ∧ t.pin = [] ∧ (∃ r, t.outbox = s.outbox ++ [r]) ∧
    (i ≠ .ksched →
      t.slen = s.slen ∧ t.rk = s.rk ∧ t.ks = s.ks ∧ t.idxJ = s.idxJ ∧ t.idxR = s.idxR) ∧
    (i ≠ .enc → i ≠ .dec → t.lh = s.lh ∧ t.rh = s.rh ∧ t.idxI = s.idxI) ∧
    (i ≠ .rf → i ≠ .enc → i ≠ .dec → t.th = s.th) ∧
    (i ≠ .pht → i ≠ .ksched → i ≠ .rf → i ≠ .enc → i ≠ .dec →
      t.idxN = s.idxN ∧ t.freeCount = s.freeCount)

/-- Only a reset or a KSCHED with a 32-byte payload changes RK or SLEN, and nothing changes RC (R23, R24,
R31). -/
def Obligations.OnlyKschedAndResetWriteTheStore : Prop :=
  ∀ s t : State, step s = .next t →
    t.rc = s.rc ∧
    ((t.rk ≠ s.rk ∨ t.slen ≠ s.slen) →
      (∃ rest, s.inbox = .reset :: rest) ∨
      ∃ key rest, s.inbox = .command 0x0008 key :: rest ∧ key.length = 32)

/-- Without a KSCHED of 32 bytes among the events the host has issued, no run from a state with no schedule
comes to have one, however many steps it takes (R192). -/
def Obligations.NoScheduleWithoutKsched : Prop :=
  ∀ (k : Nat) (s t : State), s.slen = 0 → (∀ key, HostEvent.command 0x0008 key ∈ s.inbox → key.length ≠ 32) →
    Host.Core.run Sys2Proof.core k s = .next t → t.slen = 0

/-- The response to a command, and RK and SLEN after it, depend only on its command word, its payload, RC,
SLEN and RK: two machines that agree on these and differ in anything else answer alike (R47 (c), R27,
R33). -/
def Obligations.ResponseDependsOnlyOnScheduleState : Prop :=
  ∀ (s u s' u' : State) (cw : BitVec 16) (payload : Bytes) (rest rest' : List HostEvent) (r r' : Response),
    s.inbox = .command cw payload :: rest → u.inbox = .command cw payload :: rest' →
    s.rc = u.rc → s.slen = u.slen → s.rk = u.rk →
    step s = .next s' → step u = .next u' → s'.outbox = s.outbox ++ [r] → u'.outbox = u.outbox ++ [r'] →
    r = r' ∧ s'.rc = u'.rc ∧ s'.slen = u'.slen ∧ s'.rk = u'.rk

/-- KSCHED twice with one key leaves the same RK and SLEN as once (R45). -/
def Obligations.KschedTwiceIsOnce : Prop :=
  ∀ (s t u : State), exec .ksched s = .next t → exec .ksched { t with pin := s.pin } = .next u →
    u.rk = t.rk ∧ u.slen = t.slen

/-! ## The functions -/

/-- The byte and Word conversions are inverse to one another, and `be32` is the big-endian formula (R14). -/
def Obligations.BytesAndWordsConvert : Prop :=
  (∀ b0 b1 b2 b3 : Byte, (be32 b0 b1 b2 b3).toNat =
    b0.toNat * 2 ^ 24 + b1.toNat * 2 ^ 16 + b2.toNat * 2 ^ 8 + b3.toNat) ∧
  (∀ w : Word, (bytesBE w).map BitVec.toNat =
    [w.toNat / 2 ^ 24 % 2 ^ 8, w.toNat / 2 ^ 16 % 2 ^ 8, w.toNat / 2 ^ 8 % 2 ^ 8, w.toNat % 2 ^ 8]) ∧
  (∀ (n j : Nat) (p : Bytes), p.length = 4 * n → j < n →
    (wordsOf p).length = n ∧
    (wordsOf p)[j]? = some (be32 (p.getD (4 * j) 0) (p.getD (4 * j + 1) 0) (p.getD (4 * j + 2) 0)
      (p.getD (4 * j + 3) 0))) ∧
  (∀ ws : List Word, bytesOf ws = ws.flatMap bytesBE ∧ (bytesOf ws).length = 4 * ws.length) ∧
  (∀ ws : List Word, wordsOf (bytesOf ws) = ws) ∧
  ∀ (n : Nat) (p : Bytes), p.length = 4 * n → bytesOf (wordsOf p) = p

/-- Rotation on its domain: the formula of R82, the bit-by-bit reading, and the sum of two terms that have no
set bit in common. -/
def Obligations.RotationFunction : Prop :=
  ∀ (x : Word) (s : Nat), 0 < s → s < 32 →
    (rotl x s).toNat = (x.toNat <<< s ||| x.toNat >>> (32 - s)) % 2 ^ 32 ∧
    (∀ k < 32, (rotl x s).getLsbD ((k + s) % 32) = x.getLsbD k) ∧
    (rotl x s).toNat = x.toNat * 2 ^ s % 2 ^ 32 + x.toNat / 2 ^ (32 - s) ∧
    (x.toNat * 2 ^ s % 2 ^ 32) &&& (x.toNat / 2 ^ (32 - s)) = 0

/-- The rotation laws of R89 (the spec's own derivation): composition, inverse, XOR, bijectivity. -/
def Obligations.RotationLaws : Prop :=
  ∀ s u : Nat, 0 < s → s < 32 → 0 < u → u < 32 →
    (∀ x : Word, (s + u) % 32 ≠ 0 → rotl (rotl x s) u = rotl x ((s + u) % 32)) ∧
    (∀ x : Word, rotl (rotl x s) (32 - s) = x) ∧
    (∀ x y : Word, rotl (x ^^^ y) s = rotl x s ^^^ rotl y s) ∧
    Function.Bijective fun x : Word => rotl x s

/-- Arx fixes the zero Half and is a bijection on Halves, and is not its own inverse (R102). -/
def Obligations.ArxIsBijective : Prop :=
  Function.Bijective arx ∧ arx ⟨0, 0, 0, 0⟩ = ⟨0, 0, 0, 0⟩ ∧ ∃ S, arx (arx S) ≠ S

/-- Pht fixes the zero Half and is a bijection on Halves, although Pht2, which is `(x + y, x + 3y)`, is not
injective (R110, R114, the spec's own derivations). -/
def Obligations.PhtIsBijective : Prop :=
  Function.Bijective pht ∧ pht ⟨0, 0, 0, 0⟩ = ⟨0, 0, 0, 0⟩ ∧
    (∀ x y : Word, pht2 x y = (x + y, x + 3 * y)) ∧
    ¬ Function.Injective fun xy : Word × Word => pht2 xy.1 xy.2

/-- RoundF maps zeros to zero, depends on L and K1 only through their XOR, and is a bijection of L for fixed
keys (R142). -/
def Obligations.RoundFunctionProperties : Prop :=
  roundF ⟨0, 0, 0, 0⟩ ⟨0, 0, 0, 0⟩ ⟨0, 0, 0, 0⟩ = ⟨0, 0, 0, 0⟩ ∧
  (∀ L L' K1 K1' K2 : Half, xor4 L K1 = xor4 L' K1' → roundF L K1 K2 = roundF L' K1' K2) ∧
  ∀ K1 K2 : Half, Function.Bijective fun L => roundF L K1 K2

/-- The schedule of a 32-byte key, phase by phase: absorb 8 key Words with four constant-mixed steps each,
extend by eight, squeeze 256 Words with four steps after each, group by 4 and by 2
(R120, R122, R130, R124, R125). -/
def Obligations.ScheduleOfAKey : Prop :=
  ∀ (rc : Half) (kw : List Word) (mix : Half → Half) (KS Q : Nat → Half),
    kw.length = 8 →
    (∀ S, mix S = arx ⟨S.w0 ^^^ rc.w0, S.w1 ^^^ rc.w1, S.w2 ^^^ rc.w2, S.w3 ^^^ rc.w3⟩) →
    KS 0 = ⟨0, 0, 0, 0⟩ →
    (∀ j < 8, KS (j + 1) = mix (mix (mix (mix { KS j with w0 := (KS j).w0 ^^^ kw.getD j 0 })))) →
    Q 0 = mix (mix (mix (mix (mix (mix (mix (mix (KS 8)))))))) →
    (∀ r, Q (r + 1) = mix (mix (mix (mix (Q r))))) →
    ∃ S : Store, deriveSchedule rc (bytesOf kw) = .ok S ∧
      ∀ g : Fin 32, S.get g =
        ⟨⟨(Q (8 * g)).w0, (Q (8 * g + 1)).w0, (Q (8 * g + 2)).w0, (Q (8 * g + 3)).w0⟩,
          ⟨(Q (8 * g + 4)).w0, (Q (8 * g + 5)).w0, (Q (8 * g + 6)).w0, (Q (8 * g + 7)).w0⟩⟩

/-- `derive_schedule` rejects exactly the keys that are not 32 bytes, with InvalidKeyLength; any other key
gives 32 groups (R121, R171, R132). -/
def Obligations.DeriveScheduleChecksTheKey : Prop :=
  ∀ (rc : Half) (key : Bytes),
    (key.length ≠ 32 ↔ deriveSchedule rc key = .error .invalidKeyLength) ∧
    (key.length = 32 → ∃ S, deriveSchedule rc key = .ok S ∧ S.toList.length = 32)

/-- With RC all zero the zero key gives the zero schedule (R132 (d), the spec's own derivation). -/
def Obligations.ZeroConstantsZeroKeyZeroSchedule : Prop :=
  ∃ S : Store, deriveSchedule ⟨0, 0, 0, 0⟩ (List.replicate 32 0) = .ok S ∧
    ∀ g : Fin 32, S.get g = ⟨⟨0, 0, 0, 0⟩, ⟨0, 0, 0, 0⟩⟩

/-- The driver, by the recurrence of R150 without reassignment: 32 rounds, then `concat(R_32, L_32)`, which
is `concat(L_31, L_32)`. -/
def Obligations.FeistelRecurrence : Prop :=
  ∀ (B : Block) (S : List RoundKeyGroup) (L R : Nat → Half), S.length = 32 → L 0 = B.lo → R 0 = B.hi →
    (∀ (i : Nat) (G : RoundKeyGroup), S[i]? = some G →
      L (i + 1) = xor4 (R i) (roundF (L i) G.k1 G.k2) ∧ R (i + 1) = L i) →
    feistel B S = ⟨R 32, L 32⟩ ∧ feistel B S = ⟨L 31, L 32⟩

/-- `encrypt` and `decrypt` as functions of a block and a schedule of any length: the two errors in their
order, and the driver on the schedule or on its reverse (R151, R152). -/
def Obligations.EncryptAndDecryptFunctions : Prop :=
  ∀ (block : Bytes) (S : List RoundKeyGroup),
    (block.length ≠ 32 →
      encrypt block S = .error .invalidBlockLength ∧ decrypt block S = .error .invalidBlockLength) ∧
    (block.length = 32 → S.length ≠ 32 →
      encrypt block S = .error .invalidScheduleLength ∧ decrypt block S = .error .invalidScheduleLength) ∧
    ∀ B : Block, block = bytesOf B.words → S.length = 32 →
      encrypt block S = .ok (bytesOf (feistel B S).words) ∧
      decrypt block S = .ok (bytesOf (feistel B S.reverse).words)

/-- ENC and DEC answer what `encrypt` and `decrypt` give for the payload and the stored schedule, errors
among them, whenever SLEN says that the schedule is there (R72, R153, R154). -/
def Obligations.CommandsComputeTheFunctions : Prop :=
  ∀ s : State, s.slen = 32 →
    (∃ t r, exec .enc s = .next t ∧ t.outbox = s.outbox ++ [r] ∧
      encrypt s.pin s.rk.toList =
        (match r.status with | .ok => .ok r.payload | .error e => .error e)) ∧
    (∃ t r, exec .dec s = .next t ∧ t.outbox = s.outbox ++ [r] ∧
      decrypt s.pin s.rk.toList =
        (match r.status with | .ok => .ok r.payload | .error e => .error e))

/-- The round trip of the driver, for every Block and every schedule, derived from a key or not, in both
directions (R155). R150 and R155 speak of 32 groups; a list of any other length is the model's choice (log
entry 12), and the round trip holds for it as well. -/
def Obligations.FeistelRoundTrip : Prop :=
  ∀ (B : Block) (S : List RoundKeyGroup),
    feistel (feistel B S) S.reverse = B ∧ feistel (feistel B S.reverse) S = B

/-- The round trip of the machine: KSCHED of any 32-byte key is answered OK with an empty payload, ENC of any
32-byte block OK with a ciphertext, and DEC of that ciphertext OK with the block (R155, R123, R153, R154). -/
def Obligations.DecryptionUndoesEncryption : Prop :=
  ∀ (s : State) (key block : Bytes), key.length = 32 → block.length = 32 →
    ∃ t u v cipher, exec .ksched { s with pin := key } = .next t ∧
      t.outbox = s.outbox ++ [⟨.ok, []⟩] ∧
      exec .enc { t with pin := block } = .next u ∧ u.outbox = t.outbox ++ [⟨.ok, cipher⟩] ∧
      exec .dec { u with pin := cipher } = .next v ∧ v.outbox = u.outbox ++ [⟨.ok, block⟩]

/-- Under a schedule of zero groups the driver and the driver on the reverse are the same involution and fix
the zero Block, and under any schedule the driver is a bijection on Blocks (R156 (b), (c), (e), the spec's own
derivation). The rule has 32 groups; a list of any other length is the model's choice (log entry 12). -/
def Obligations.EncryptionProperties : Prop :=
  (∀ B : Block, ∀ S : List RoundKeyGroup, (∀ G ∈ S, G = ⟨⟨0, 0, 0, 0⟩, ⟨0, 0, 0, 0⟩⟩) →
    S.reverse = S ∧ feistel (feistel B S) S = B ∧
    feistel ⟨⟨0, 0, 0, 0⟩, ⟨0, 0, 0, 0⟩⟩ S = ⟨⟨0, 0, 0, 0⟩, ⟨0, 0, 0, 0⟩⟩) ∧
  ∀ S : List RoundKeyGroup, Function.Bijective fun B => feistel B S
end

