-- ==== Sys2Proof/Laws/Bytes.lean ====
section
/-! SUPPORT. The laws of the payload accesses: what a load reads from, and a store adds to, a payload given by
its Words. -/

namespace Sys2Proof.Machine

@[simp] theorem bytesBE_length (w : Word) : (bytesBE w).length = 4 := rfl

@[simp] theorem be32_bytesBE (w : Word) :
    be32 (w.extractLsb' 24 8) (w.extractLsb' 16 8) (w.extractLsb' 8 8) (w.extractLsb' 0 8) = w := by
  apply BitVec.eq_of_getLsbD_eq
  intro k hk
  simp only [be32, BitVec.getLsbD_append, BitVec.getLsbD_extractLsb']
  by_cases h0 : k < 8
  · simp [h0]
  · by_cases h1 : k < 16
    · have : k - 8 < 8 := by omega
      simp [h0, this, show 8 + (k - 8) = k by omega]
    · by_cases h2 : k < 24
      · have h3 : ¬ k - 8 < 8 := by omega
        have h4 : k - 8 - 8 < 8 := by omega
        simp [h0, h3, h4, show 16 + (k - 8 - 8) = k by omega]
      · have h3 : ¬ k - 8 < 8 := by omega
        have h4 : ¬ k - 8 - 8 < 8 := by omega
        have h5 : k - 8 - 8 - 8 < 8 := by omega
        simp [h0, h3, h4, h5, show 24 + (k - 8 - 8 - 8) = k by omega]

@[simp] theorem bytesBE_be32 (b0 b1 b2 b3 : Byte) : bytesBE (be32 b0 b1 b2 b3) = [b0, b1, b2, b3] := by
  have h (o : Nat) (b : Byte) (hb : ∀ k < 8, (be32 b0 b1 b2 b3).getLsbD (o + k) = b.getLsbD k) :
      (be32 b0 b1 b2 b3).extractLsb' o 8 = b := by
    apply BitVec.eq_of_getLsbD_eq
    intro k hk
    simp [hk, hb k hk]
  simp only [bytesBE]
  rw [h 24 b0, h 16 b1, h 8 b2, h 0 b3] <;>
    intro k hk <;> simp only [be32, BitVec.getLsbD_append]
  · simp [hk]
  · simp [hk]
  · simp [show ¬ 16 + k < 8 by omega, show ¬ 16 + k - 8 < 8 by omega,
      show 16 + k - 8 - 8 = k by omega, hk]
  · simp [show ¬ 24 + k < 8 by omega, show ¬ 24 + k - 8 < 8 by omega,
      show ¬ 24 + k - 8 - 8 < 8 by omega, show 24 + k - 8 - 8 - 8 = k by omega]

@[simp] theorem bytesOf_nil : bytesOf [] = [] := rfl

theorem bytesOf_cons (w : Word) (ws : List Word) : bytesOf (w :: ws) = bytesBE w ++ bytesOf ws := rfl

theorem bytesOf_append (us ws : List Word) : bytesOf (us ++ ws) = bytesOf us ++ bytesOf ws := by
  simp [bytesOf]

theorem bytesOf_length (ws : List Word) : (bytesOf ws).length = 4 * ws.length := by
  induction ws with
  | nil => rfl
  | cons w ws ih => simp [bytesOf_cons, ih]; omega

/-- Every byte string of `4n` bytes is the payload of `n` Words. -/
theorem exists_words (n : Nat) (p : Bytes) (h : p.length = 4 * n) :
    ∃ ws : List Word, ws.length = n ∧ p = bytesOf ws := by
  induction n generalizing p with
  | zero => exact ⟨[], rfl, List.length_eq_zero_iff.mp h⟩
  | succ n ih =>
    match p, h with
    | b0 :: b1 :: b2 :: b3 :: rest, h =>
      obtain ⟨ws, hn, rfl⟩ := ih rest (by simp at h; omega)
      exact ⟨be32 b0 b1 b2 b3 :: ws, by simp [hn], by simp [bytesOf_cons]⟩
    | [], h => simp at h
    | [_], h => simp at h; omega
    | [_, _], h => simp at h; omega
    | [_, _, _], h => simp at h; omega

theorem memRead_bytesOf_cons (k : Nat) (w : Word) (ws : List Word) :
    memRead (4 * (k + 1)) 4 (bytesOf (w :: ws)) = memRead (4 * k) 4 (bytesOf ws) := by
  have h : 4 * (k + 1) = (bytesBE w).length + 4 * k := by simp; omega
  have h' : (bytesBE w).length + 4 * k + 4 ≤ (bytesBE w).length + (bytesOf ws).length ↔
      4 * k + 4 ≤ (bytesOf ws).length := by omega
  rw [bytesOf_cons, h]
  simp only [memRead, List.length_append, List.drop_length_add_append, h']

/-- LoadWord(k) reads Word `k` of the payload, where there is one. -/
theorem loadWord_bytesOf (k : Nat) (ws : List Word) : loadWord k (bytesOf ws) = ws[k]? := by
  induction ws generalizing k with
  | nil => simp [loadWord, memRead]
  | cons w ws ih =>
    cases k with
    | zero => simp [loadWord, memRead, bytesOf_cons, bytesBE]
    | succ k => simpa [loadWord, memRead_bytesOf_cons] using ih k

/-- LoadHalf(k) reads the four Words from Word `k` on. -/
theorem loadHalf_bytesOf (us vs : List Word) (H : Half) (k : Nat) (hk : us.length = k) :
    loadHalf k (bytesOf (us ++ H.words ++ vs)) = some H := by
  subst hk
  have h (j : Nat) (w : Word) (hw : (H.words ++ vs)[j]? = some w) :
      loadWord (us.length + j) (bytesOf (us ++ H.words ++ vs)) = some w := by
    rw [loadWord_bytesOf, List.append_assoc, List.getElem?_append_right (by omega)]
    simpa using hw
  have h0 := h 0 H.w0 rfl
  have h1 := h 1 H.w1 rfl
  have h2 := h 2 H.w2 rfl
  have h3 := h 3 H.w3 rfl
  simp only [Nat.add_zero] at h0
  simp only [loadHalf, h0, h1, h2, h3]
  rfl

theorem loadBlock_bytesOf (B : Block) : loadBlock 0 (bytesOf B.words) = some B := by
  have lo := loadHalf_bytesOf [] B.hi.words B.lo 0 rfl
  have hi := loadHalf_bytesOf B.lo.words [] B.hi 4 rfl
  simp only [List.nil_append, List.append_nil] at lo hi
  simp [loadBlock, Block.words, lo, hi]

/-- StoreWord at the end of a payload appends the Word. -/
theorem storeWord_end (ws : List Word) (w : Word) (k : Nat) (hk : ws.length = k) :
    storeWord k w (bytesOf ws) = bytesOf (ws ++ [w]) := by
  subst hk
  have h : 4 * ws.length = (bytesOf ws).length := (bytesOf_length ws).symm
  simp [storeWord, memWrite, h, List.drop_of_length_le, bytesOf_append, bytesOf_cons]

/-- StoreHalf at the end of a payload appends the Half. -/
theorem storeHalf_end (ws : List Word) (H : Half) (k : Nat) (hk : ws.length = k) :
    storeHalf k H (bytesOf ws) = bytesOf (ws ++ H.words) := by
  unfold storeHalf
  rw [storeWord_end ws H.w0 k hk, storeWord_end _ H.w1 (k + 1) (by simp [hk]),
    storeWord_end _ H.w2 (k + 2) (by simp [hk]), storeWord_end _ H.w3 (k + 3) (by simp [hk])]
  simp [Half.words]

@[simp] theorem storeWord_nil (w : Word) : storeWord 0 w [] = bytesOf [w] := storeWord_end [] w 0 rfl

@[simp] theorem storeHalf_nil (H : Half) : storeHalf 0 H [] = bytesOf H.words := storeHalf_end [] H 0 rfl

@[simp] theorem storeBlock_nil (B : Block) : storeBlock 0 B [] = bytesOf B.words := by
  rw [storeBlock, storeHalf_nil, storeHalf_end _ _ (0 + 4) rfl]; rfl

end Sys2Proof.Machine
end

