-- ==== Sys2Proof/Laws/State.lean ====
section
/-! SUPPORT. What each named update of the state does to each field: one lemma per field and update. -/

namespace Sys2Proof.Machine

section
variable (s : State)

@[simp] theorem State.respond_rc (st : Status) (p : Bytes) : (s.respond st p).rc = s.rc := rfl
@[simp] theorem State.respond_slen (st : Status) (p : Bytes) : (s.respond st p).slen = s.slen := rfl
@[simp] theorem State.respond_rk (st : Status) (p : Bytes) : (s.respond st p).rk = s.rk := rfl
@[simp] theorem State.respond_ks (st : Status) (p : Bytes) : (s.respond st p).ks = s.ks := rfl
@[simp] theorem State.respond_lh (st : Status) (p : Bytes) : (s.respond st p).lh = s.lh := rfl
@[simp] theorem State.respond_rh (st : Status) (p : Bytes) : (s.respond st p).rh = s.rh := rfl
@[simp] theorem State.respond_th (st : Status) (p : Bytes) : (s.respond st p).th = s.th := rfl
@[simp] theorem State.respond_idxI (st : Status) (p : Bytes) : (s.respond st p).idxI = s.idxI := rfl
@[simp] theorem State.respond_idxJ (st : Status) (p : Bytes) : (s.respond st p).idxJ = s.idxJ := rfl
@[simp] theorem State.respond_idxN (st : Status) (p : Bytes) : (s.respond st p).idxN = s.idxN := rfl
@[simp] theorem State.respond_idxR (st : Status) (p : Bytes) : (s.respond st p).idxR = s.idxR := rfl
@[simp] theorem State.respond_pin (st : Status) (p : Bytes) : (s.respond st p).pin = [] := rfl
@[simp] theorem State.respond_inbox (st : Status) (p : Bytes) : (s.respond st p).inbox = s.inbox := rfl
@[simp] theorem State.respond_outbox (st : Status) (p : Bytes) :
    (s.respond st p).outbox = s.outbox ++ [⟨st, p⟩] := rfl
@[simp] theorem State.respond_freeCount (st : Status) (p : Bytes) :
    (s.respond st p).freeCount = s.freeCount := rfl

@[simp] theorem State.raise_rc (e : CoreError) : (s.raise e).rc = s.rc := rfl
@[simp] theorem State.raise_slen (e : CoreError) : (s.raise e).slen = s.slen := rfl
@[simp] theorem State.raise_rk (e : CoreError) : (s.raise e).rk = s.rk := rfl
@[simp] theorem State.raise_ks (e : CoreError) : (s.raise e).ks = s.ks := rfl
@[simp] theorem State.raise_lh (e : CoreError) : (s.raise e).lh = s.lh := rfl
@[simp] theorem State.raise_rh (e : CoreError) : (s.raise e).rh = s.rh := rfl
@[simp] theorem State.raise_th (e : CoreError) : (s.raise e).th = s.th := rfl
@[simp] theorem State.raise_idxI (e : CoreError) : (s.raise e).idxI = s.idxI := rfl
@[simp] theorem State.raise_idxJ (e : CoreError) : (s.raise e).idxJ = s.idxJ := rfl
@[simp] theorem State.raise_idxN (e : CoreError) : (s.raise e).idxN = s.idxN := rfl
@[simp] theorem State.raise_idxR (e : CoreError) : (s.raise e).idxR = s.idxR := rfl
@[simp] theorem State.raise_pin (e : CoreError) : (s.raise e).pin = [] := rfl
@[simp] theorem State.raise_inbox (e : CoreError) : (s.raise e).inbox = s.inbox := rfl
@[simp] theorem State.raise_outbox (e : CoreError) : (s.raise e).outbox = s.outbox ++ [⟨.error e, []⟩] := rfl
@[simp] theorem State.raise_freeCount (e : CoreError) : (s.raise e).freeCount = s.freeCount := rfl

@[simp] theorem State.begin_rc (p : Bytes) (rest : List HostEvent) : (s.begin p rest).rc = s.rc := rfl
@[simp] theorem State.begin_slen (p : Bytes) (rest : List HostEvent) : (s.begin p rest).slen = s.slen := rfl
@[simp] theorem State.begin_rk (p : Bytes) (rest : List HostEvent) : (s.begin p rest).rk = s.rk := rfl
@[simp] theorem State.begin_ks (p : Bytes) (rest : List HostEvent) : (s.begin p rest).ks = s.ks := rfl
@[simp] theorem State.begin_lh (p : Bytes) (rest : List HostEvent) : (s.begin p rest).lh = s.lh := rfl
@[simp] theorem State.begin_rh (p : Bytes) (rest : List HostEvent) : (s.begin p rest).rh = s.rh := rfl
@[simp] theorem State.begin_th (p : Bytes) (rest : List HostEvent) : (s.begin p rest).th = s.th := rfl
@[simp] theorem State.begin_idxI (p : Bytes) (rest : List HostEvent) : (s.begin p rest).idxI = s.idxI := rfl
@[simp] theorem State.begin_idxJ (p : Bytes) (rest : List HostEvent) : (s.begin p rest).idxJ = s.idxJ := rfl
@[simp] theorem State.begin_idxN (p : Bytes) (rest : List HostEvent) : (s.begin p rest).idxN = s.idxN := rfl
@[simp] theorem State.begin_idxR (p : Bytes) (rest : List HostEvent) : (s.begin p rest).idxR = s.idxR := rfl
@[simp] theorem State.begin_pin (p : Bytes) (rest : List HostEvent) : (s.begin p rest).pin = p := rfl
@[simp] theorem State.begin_inbox (p : Bytes) (rest : List HostEvent) : (s.begin p rest).inbox = rest := rfl
@[simp] theorem State.begin_outbox (p : Bytes) (rest : List HostEvent) :
    (s.begin p rest).outbox = s.outbox := rfl
@[simp] theorem State.begin_freeCount (p : Bytes) (rest : List HostEvent) :
    (s.begin p rest).freeCount = s.freeCount := rfl

@[simp] theorem State.applyReset_rc : (s.applyReset).rc = s.rc := rfl
@[simp] theorem State.applyReset_slen : (s.applyReset).slen = 0 := rfl
@[simp] theorem State.applyReset_rk : (s.applyReset).rk = Config.freeRK s.freeCount := rfl
@[simp] theorem State.applyReset_ks : (s.applyReset).ks = Config.freeKS s.freeCount := rfl
@[simp] theorem State.applyReset_lh : (s.applyReset).lh = Config.freeL s.freeCount := rfl
@[simp] theorem State.applyReset_rh : (s.applyReset).rh = Config.freeR s.freeCount := rfl
@[simp] theorem State.applyReset_th : (s.applyReset).th = Config.freeT s.freeCount := rfl
@[simp] theorem State.applyReset_idxI : (s.applyReset).idxI = Config.freeI s.freeCount := rfl
@[simp] theorem State.applyReset_idxJ : (s.applyReset).idxJ = Config.freeJ s.freeCount := rfl
@[simp] theorem State.applyReset_idxN : (s.applyReset).idxN = Config.freeN s.freeCount := rfl
@[simp] theorem State.applyReset_idxR : (s.applyReset).idxR = Config.freeSqueezeIndex s.freeCount := rfl
@[simp] theorem State.applyReset_pin : (s.applyReset).pin = [] := rfl
@[simp] theorem State.applyReset_inbox : (s.applyReset).inbox = s.inbox := rfl
@[simp] theorem State.applyReset_outbox : (s.applyReset).outbox = s.outbox := rfl
@[simp] theorem State.applyReset_freeCount : (s.applyReset).freeCount = s.freeCount + 1 := rfl

@[simp] theorem State.leaveSchedule_rc : (s.leaveSchedule).rc = s.rc := rfl
@[simp] theorem State.leaveSchedule_slen : (s.leaveSchedule).slen = s.slen := rfl
@[simp] theorem State.leaveSchedule_rk : (s.leaveSchedule).rk = s.rk := rfl
@[simp] theorem State.leaveSchedule_ks : (s.leaveSchedule).ks = Config.freeKS s.freeCount := rfl
@[simp] theorem State.leaveSchedule_lh : (s.leaveSchedule).lh = s.lh := rfl
@[simp] theorem State.leaveSchedule_rh : (s.leaveSchedule).rh = s.rh := rfl
@[simp] theorem State.leaveSchedule_th : (s.leaveSchedule).th = s.th := rfl
@[simp] theorem State.leaveSchedule_idxI : (s.leaveSchedule).idxI = s.idxI := rfl
@[simp] theorem State.leaveSchedule_idxJ : (s.leaveSchedule).idxJ = Config.freeJ s.freeCount := rfl
@[simp] theorem State.leaveSchedule_idxN : (s.leaveSchedule).idxN = Config.freeN s.freeCount := rfl
@[simp] theorem State.leaveSchedule_idxR : (s.leaveSchedule).idxR = Config.freeSqueezeIndex s.freeCount := rfl
@[simp] theorem State.leaveSchedule_pin : (s.leaveSchedule).pin = s.pin := rfl
@[simp] theorem State.leaveSchedule_inbox : (s.leaveSchedule).inbox = s.inbox := rfl
@[simp] theorem State.leaveSchedule_outbox : (s.leaveSchedule).outbox = s.outbox := rfl
@[simp] theorem State.leaveSchedule_freeCount : (s.leaveSchedule).freeCount = s.freeCount + 1 := rfl

@[simp] theorem State.leavePht_rc : (s.leavePht).rc = s.rc := rfl
@[simp] theorem State.leavePht_slen : (s.leavePht).slen = s.slen := rfl
@[simp] theorem State.leavePht_rk : (s.leavePht).rk = s.rk := rfl
@[simp] theorem State.leavePht_ks : (s.leavePht).ks = s.ks := rfl
@[simp] theorem State.leavePht_lh : (s.leavePht).lh = s.lh := rfl
@[simp] theorem State.leavePht_rh : (s.leavePht).rh = s.rh := rfl
@[simp] theorem State.leavePht_th : (s.leavePht).th = s.th := rfl
@[simp] theorem State.leavePht_idxI : (s.leavePht).idxI = s.idxI := rfl
@[simp] theorem State.leavePht_idxJ : (s.leavePht).idxJ = s.idxJ := rfl
@[simp] theorem State.leavePht_idxN : (s.leavePht).idxN = Config.freeN s.freeCount := rfl
@[simp] theorem State.leavePht_idxR : (s.leavePht).idxR = s.idxR := rfl
@[simp] theorem State.leavePht_pin : (s.leavePht).pin = s.pin := rfl
@[simp] theorem State.leavePht_inbox : (s.leavePht).inbox = s.inbox := rfl
@[simp] theorem State.leavePht_outbox : (s.leavePht).outbox = s.outbox := rfl
@[simp] theorem State.leavePht_freeCount : (s.leavePht).freeCount = s.freeCount + 1 := rfl

@[simp] theorem State.leaveRound_rc : (s.leaveRound).rc = s.rc := rfl
@[simp] theorem State.leaveRound_slen : (s.leaveRound).slen = s.slen := rfl
@[simp] theorem State.leaveRound_rk : (s.leaveRound).rk = s.rk := rfl
@[simp] theorem State.leaveRound_ks : (s.leaveRound).ks = s.ks := rfl
@[simp] theorem State.leaveRound_lh : (s.leaveRound).lh = s.lh := rfl
@[simp] theorem State.leaveRound_rh : (s.leaveRound).rh = s.rh := rfl
@[simp] theorem State.leaveRound_th : (s.leaveRound).th = Config.freeT s.freeCount := rfl
@[simp] theorem State.leaveRound_idxI : (s.leaveRound).idxI = s.idxI := rfl
@[simp] theorem State.leaveRound_idxJ : (s.leaveRound).idxJ = s.idxJ := rfl
@[simp] theorem State.leaveRound_idxN : (s.leaveRound).idxN = Config.freeN s.freeCount := rfl
@[simp] theorem State.leaveRound_idxR : (s.leaveRound).idxR = s.idxR := rfl
@[simp] theorem State.leaveRound_pin : (s.leaveRound).pin = s.pin := rfl
@[simp] theorem State.leaveRound_inbox : (s.leaveRound).inbox = s.inbox := rfl
@[simp] theorem State.leaveRound_outbox : (s.leaveRound).outbox = s.outbox := rfl
@[simp] theorem State.leaveRound_freeCount : (s.leaveRound).freeCount = s.freeCount + 1 := rfl

@[simp] theorem State.leaveFeistel_rc : (s.leaveFeistel).rc = s.rc := rfl
@[simp] theorem State.leaveFeistel_slen : (s.leaveFeistel).slen = s.slen := rfl
@[simp] theorem State.leaveFeistel_rk : (s.leaveFeistel).rk = s.rk := rfl
@[simp] theorem State.leaveFeistel_ks : (s.leaveFeistel).ks = s.ks := rfl
@[simp] theorem State.leaveFeistel_lh : (s.leaveFeistel).lh = Config.freeL s.freeCount := rfl
@[simp] theorem State.leaveFeistel_rh : (s.leaveFeistel).rh = Config.freeR s.freeCount := rfl
@[simp] theorem State.leaveFeistel_th : (s.leaveFeistel).th = Config.freeT s.freeCount := rfl
@[simp] theorem State.leaveFeistel_idxI : (s.leaveFeistel).idxI = Config.freeI s.freeCount := rfl
@[simp] theorem State.leaveFeistel_idxJ : (s.leaveFeistel).idxJ = s.idxJ := rfl
@[simp] theorem State.leaveFeistel_idxN : (s.leaveFeistel).idxN = Config.freeN s.freeCount := rfl
@[simp] theorem State.leaveFeistel_idxR : (s.leaveFeistel).idxR = s.idxR := rfl
@[simp] theorem State.leaveFeistel_pin : (s.leaveFeistel).pin = s.pin := rfl
@[simp] theorem State.leaveFeistel_inbox : (s.leaveFeistel).inbox = s.inbox := rfl
@[simp] theorem State.leaveFeistel_outbox : (s.leaveFeistel).outbox = s.outbox := rfl
@[simp] theorem State.leaveFeistel_freeCount : (s.leaveFeistel).freeCount = s.freeCount + 1 := rfl

@[simp] theorem State.commitSchedule_rc (S : Store) : (s.commitSchedule S).rc = s.rc := rfl
@[simp] theorem State.commitSchedule_slen (S : Store) : (s.commitSchedule S).slen = 32 := rfl
@[simp] theorem State.commitSchedule_rk (S : Store) : (s.commitSchedule S).rk = S := rfl
@[simp] theorem State.commitSchedule_ks (S : Store) : (s.commitSchedule S).ks = s.ks := rfl
@[simp] theorem State.commitSchedule_lh (S : Store) : (s.commitSchedule S).lh = s.lh := rfl
@[simp] theorem State.commitSchedule_rh (S : Store) : (s.commitSchedule S).rh = s.rh := rfl
@[simp] theorem State.commitSchedule_th (S : Store) : (s.commitSchedule S).th = s.th := rfl
@[simp] theorem State.commitSchedule_idxI (S : Store) : (s.commitSchedule S).idxI = s.idxI := rfl
@[simp] theorem State.commitSchedule_idxJ (S : Store) : (s.commitSchedule S).idxJ = s.idxJ := rfl
@[simp] theorem State.commitSchedule_idxN (S : Store) : (s.commitSchedule S).idxN = s.idxN := rfl
@[simp] theorem State.commitSchedule_idxR (S : Store) : (s.commitSchedule S).idxR = s.idxR := rfl
@[simp] theorem State.commitSchedule_pin (S : Store) : (s.commitSchedule S).pin = s.pin := rfl
@[simp] theorem State.commitSchedule_inbox (S : Store) : (s.commitSchedule S).inbox = s.inbox := rfl
@[simp] theorem State.commitSchedule_outbox (S : Store) : (s.commitSchedule S).outbox = s.outbox := rfl
@[simp] theorem State.commitSchedule_freeCount (S : Store) :
    (s.commitSchedule S).freeCount = s.freeCount := rfl

@[simp] theorem State.withFetchWord_rc (n w : Nat) : (s.withFetchWord n w).rc = s.rc := rfl
@[simp] theorem State.withFetchWord_slen (n w : Nat) : (s.withFetchWord n w).slen = s.slen := rfl
@[simp] theorem State.withFetchWord_rk (n w : Nat) : (s.withFetchWord n w).rk = s.rk := rfl
@[simp] theorem State.withFetchWord_ks (n w : Nat) : (s.withFetchWord n w).ks = s.ks := rfl
@[simp] theorem State.withFetchWord_lh (n w : Nat) : (s.withFetchWord n w).lh = s.lh := rfl
@[simp] theorem State.withFetchWord_rh (n w : Nat) : (s.withFetchWord n w).rh = s.rh := rfl
@[simp] theorem State.withFetchWord_th (n w : Nat) : (s.withFetchWord n w).th = s.th := rfl
@[simp] theorem State.withFetchWord_idxI (n w : Nat) : (s.withFetchWord n w).idxI = s.idxI := rfl
@[simp] theorem State.withFetchWord_idxJ (n w : Nat) : (s.withFetchWord n w).idxJ = s.idxJ := rfl
@[simp] theorem State.withFetchWord_idxN (n w : Nat) : (s.withFetchWord n w).idxN = s.idxN := rfl
@[simp] theorem State.withFetchWord_idxR (n w : Nat) : (s.withFetchWord n w).idxR = s.idxR := rfl
@[simp] theorem State.withFetchWord_pin (n w : Nat) : (s.withFetchWord n w).pin = s.pin := rfl
@[simp] theorem State.withFetchWord_inbox (n w : Nat) :
    (s.withFetchWord n w).inbox = .command (BitVec.ofNat 16 w) (zeroPayload (BitVec.ofNat 16 w)) :: s.inbox := rfl
@[simp] theorem State.withFetchWord_outbox (n w : Nat) : (s.withFetchWord n w).outbox = s.outbox := rfl
@[simp] theorem State.withFetchWord_freeCount (n w : Nat) :
    (s.withFetchWord n w).freeCount = s.freeCount := rfl

@[simp] theorem State.takeReset_rc (rest : List HostEvent) : (s.takeReset rest).rc = s.applyReset.rc := rfl
@[simp] theorem State.takeReset_slen (rest : List HostEvent) : (s.takeReset rest).slen = s.applyReset.slen := rfl
@[simp] theorem State.takeReset_rk (rest : List HostEvent) : (s.takeReset rest).rk = s.applyReset.rk := rfl
@[simp] theorem State.takeReset_ks (rest : List HostEvent) : (s.takeReset rest).ks = s.applyReset.ks := rfl
@[simp] theorem State.takeReset_lh (rest : List HostEvent) : (s.takeReset rest).lh = s.applyReset.lh := rfl
@[simp] theorem State.takeReset_rh (rest : List HostEvent) : (s.takeReset rest).rh = s.applyReset.rh := rfl
@[simp] theorem State.takeReset_th (rest : List HostEvent) : (s.takeReset rest).th = s.applyReset.th := rfl
@[simp] theorem State.takeReset_idxI (rest : List HostEvent) : (s.takeReset rest).idxI = s.applyReset.idxI := rfl
@[simp] theorem State.takeReset_idxJ (rest : List HostEvent) : (s.takeReset rest).idxJ = s.applyReset.idxJ := rfl
@[simp] theorem State.takeReset_idxN (rest : List HostEvent) : (s.takeReset rest).idxN = s.applyReset.idxN := rfl
@[simp] theorem State.takeReset_idxR (rest : List HostEvent) : (s.takeReset rest).idxR = s.applyReset.idxR := rfl
@[simp] theorem State.takeReset_pin (rest : List HostEvent) : (s.takeReset rest).pin = s.applyReset.pin := rfl
@[simp] theorem State.takeReset_inbox (rest : List HostEvent) : (s.takeReset rest).inbox = rest := rfl
@[simp] theorem State.takeReset_outbox (rest : List HostEvent) : (s.takeReset rest).outbox = s.applyReset.outbox := rfl
@[simp] theorem State.takeReset_freeCount (rest : List HostEvent) : (s.takeReset rest).freeCount = s.applyReset.freeCount := rfl

@[simp] theorem State.placeCommand_rc (cw : BitVec 16) : (s.placeCommand cw).rc = s.rc := rfl
@[simp] theorem State.placeCommand_slen (cw : BitVec 16) : (s.placeCommand cw).slen = s.slen := rfl
@[simp] theorem State.placeCommand_rk (cw : BitVec 16) : (s.placeCommand cw).rk = s.rk := rfl
@[simp] theorem State.placeCommand_ks (cw : BitVec 16) : (s.placeCommand cw).ks = s.ks := rfl
@[simp] theorem State.placeCommand_lh (cw : BitVec 16) : (s.placeCommand cw).lh = s.lh := rfl
@[simp] theorem State.placeCommand_rh (cw : BitVec 16) : (s.placeCommand cw).rh = s.rh := rfl
@[simp] theorem State.placeCommand_th (cw : BitVec 16) : (s.placeCommand cw).th = s.th := rfl
@[simp] theorem State.placeCommand_idxI (cw : BitVec 16) : (s.placeCommand cw).idxI = s.idxI := rfl
@[simp] theorem State.placeCommand_idxJ (cw : BitVec 16) : (s.placeCommand cw).idxJ = s.idxJ := rfl
@[simp] theorem State.placeCommand_idxN (cw : BitVec 16) : (s.placeCommand cw).idxN = s.idxN := rfl
@[simp] theorem State.placeCommand_idxR (cw : BitVec 16) : (s.placeCommand cw).idxR = s.idxR := rfl
@[simp] theorem State.placeCommand_pin (cw : BitVec 16) : (s.placeCommand cw).pin = s.pin := rfl
@[simp] theorem State.placeCommand_inbox (cw : BitVec 16) :
    (s.placeCommand cw).inbox = .command cw (zeroPayload cw) :: s.inbox := rfl
@[simp] theorem State.placeCommand_outbox (cw : BitVec 16) : (s.placeCommand cw).outbox = s.outbox := rfl
@[simp] theorem State.placeCommand_freeCount (cw : BitVec 16) :
    (s.placeCommand cw).freeCount = s.freeCount := rfl

end

end Sys2Proof.Machine
end

