-- ==== Sys2Proof/Laws/Ops.lean ====
section
/-! SUPPORT. What each shared operation and one step can do, said once. -/

namespace Sys2Proof.Machine

theorem checkPayload_wrong {i : Instr} {s : State} {go : Host.Outcome State Fault Refusal}
    (h : s.pin.length ≠ payloadBytes i) : checkPayload i s go = .next (s.raise (payloadError i)) :=
  if_pos h

theorem checkPayload_right {i : Instr} {s : State} {go : Host.Outcome State Fault Refusal}
    (h : s.pin.length = payloadBytes i) : checkPayload i s go = go :=
  if_neg (not_not.mpr h)

theorem checkSchedule_absent {s : State} {go : Host.Outcome State Fault Refusal} (h : s.slen ≠ 32) :
    checkSchedule s go = .next (s.raise .invalidScheduleLength) :=
  if_pos h

theorem checkSchedule_present {s : State} {go : Host.Outcome State Fault Refusal} (h : s.slen = 32) :
    checkSchedule s go = go :=
  if_neg (not_not.mpr h)

/-- The two ways past the payload check. -/
theorem checkPayload_next {i : Instr} {s t : State} {go : Host.Outcome State Fault Refusal}
    (h : checkPayload i s go = .next t) :
    (s.pin.length ≠ payloadBytes i ∧ t = s.raise (payloadError i)) ∨
      (s.pin.length = payloadBytes i ∧ go = .next t) := by
  by_cases hp : s.pin.length = payloadBytes i
  · exact .inr ⟨hp, (checkPayload_right hp).symm.trans h⟩
  · rw [checkPayload_wrong hp] at h
    cases h
    exact .inl ⟨hp, rfl⟩

/-- The two ways past the schedule check. -/
theorem checkSchedule_next {s t : State} {go : Host.Outcome State Fault Refusal}
    (h : checkSchedule s go = .next t) :
    (s.slen ≠ 32 ∧ t = s.raise .invalidScheduleLength) ∨ (s.slen = 32 ∧ go = .next t) := by
  by_cases hs : s.slen = 32
  · exact .inr ⟨hs, (checkSchedule_present hs).symm.trans h⟩
  · rw [checkSchedule_absent hs] at h
    cases h
    exact .inl ⟨hs, rfl⟩

@[simp] theorem deliver_some (p : Bytes) (s : State) : deliver (some p) s = .next (s.respond .ok p) := rfl

theorem deliver_next {pout : Option Bytes} {s t : State} (h : deliver pout s = .next t) :
    ∃ p, pout = some p ∧ t = s.respond .ok p := by
  cases pout with
  | none => cases h
  | some p => cases h; exact ⟨p, rfl, rfl⟩

/-- Everything a unit command can do. -/
theorem unitCommand_next {i : Instr} {work : Bytes → Option Bytes} {leave : State → State} {s t : State}
    (h : unitCommand i work leave s = .next t) :
    (s.pin.length ≠ payloadBytes i ∧ t = s.raise (payloadError i)) ∨
      (s.pin.length = payloadBytes i ∧ ∃ p, work s.pin = some p ∧ t = (leave s).respond .ok p) := by
  rcases checkPayload_next h with hw | ⟨hp, hd⟩
  · exact .inl hw
  · exact .inr ⟨hp, deliver_next hd⟩

theorem unitCommand_done {i : Instr} {work : Bytes → Option Bytes} {leave : State → State} {s : State}
    {p : Bytes} (hl : s.pin.length = payloadBytes i) (hw : work s.pin = some p) :
    unitCommand i work leave s = .next ((leave s).respond .ok p) := by
  simp [unitCommand, checkPayload_right hl, hw]

theorem issue_legal {run : Instr → State → Host.Outcome State Fault Refusal} {cw : BitVec 16} {i : Instr}
    (h : decode cw = .ok i) (s : State) : issue run cw s = run i s := by
  simp [issue, h]

theorem issue_illegal {run : Instr → State → Host.Outcome State Fault Refusal} {cw : BitVec 16}
    {e : IllegalWord} (h : decode cw = .error e) (s : State) :
    issue run cw s = .next (s.raise .illegalCommand) := by
  simp [issue, h]

theorem step_command {s : State} {cw : BitVec 16} {payload : Bytes} {rest : List HostEvent}
    (h : s.inbox = .command cw payload :: rest) : step s = issue exec cw (s.begin payload rest) := by
  simp [step, takeEvent, h]

theorem step_reset {s : State} {rest : List HostEvent} (h : s.inbox = .reset :: rest) :
    step s = .next (s.takeReset rest) := by
  simp [step, takeEvent, h]

/-- Everything a step can do: stay idle, take a reset, refuse an illegal word with its error, or run the
decoded command. -/
theorem step_next {s t : State} (h : step s = .next t) :
    (s.inbox = [] ∧ t = s) ∨
      (∃ rest, s.inbox = .reset :: rest ∧ t = s.takeReset rest) ∨
      (∃ cw p rest e, s.inbox = .command cw p :: rest ∧ decode cw = .error e ∧
        t = (s.begin p rest).raise .illegalCommand) ∨
      (∃ cw p rest i, s.inbox = .command cw p :: rest ∧ decode cw = .ok i ∧
        exec i (s.begin p rest) = .next t) := by
  unfold step takeEvent at h
  split at h
  · next hi => cases h; exact .inl ⟨hi, rfl⟩
  · next rest hi => cases h; exact .inr (.inl ⟨rest, hi, rfl⟩)
  · next cw p rest hi =>
    cases hd : decode cw with
    | error e =>
      rw [issue_illegal hd] at h
      cases h
      exact .inr (.inr (.inl ⟨cw, p, rest, e, hi, hd, rfl⟩))
    | ok i =>
      rw [issue_legal hd] at h
      exact .inr (.inr (.inr ⟨cw, p, rest, i, hi, hd, h⟩))

end Sys2Proof.Machine
end

