-- ==== Sys2Proof/Laws/PerInstr.lean ====
section
/-! SUPPORT. Facts about every command as written, one lemma per constructor. -/

namespace Sys2Proof.Laws

/-- The command word of a command is in its row of the opcode map: `CW & mask = match` (30_encoding.md R62). -/
def WordPattern.Statement (i : Instr) : Prop := encode i &&& i.wordMask = i.wordMatch

theorem WordPattern.add : WordPattern.Statement .add := rfl
theorem WordPattern.rotl : ∀ amount, WordPattern.Statement (.rotl amount) := by
  unfold WordPattern.Statement; decide
theorem WordPattern.xor : WordPattern.Statement .xor := rfl
theorem WordPattern.xor4 : WordPattern.Statement .xor4 := rfl
theorem WordPattern.arx : WordPattern.Statement .arx := rfl
theorem WordPattern.phtp : WordPattern.Statement .phtp := rfl
theorem WordPattern.pht : WordPattern.Statement .pht := rfl
theorem WordPattern.ksched : WordPattern.Statement .ksched := rfl
theorem WordPattern.rdrk : ∀ group, WordPattern.Statement (.rdrk group) := by
  unfold WordPattern.Statement; decide
theorem WordPattern.rdsl : WordPattern.Statement .rdsl := rfl
theorem WordPattern.rdrc : WordPattern.Statement .rdrc := rfl
theorem WordPattern.rf : WordPattern.Statement .rf := rfl
theorem WordPattern.enc : WordPattern.Statement .enc := rfl
theorem WordPattern.dec : WordPattern.Statement .dec := rfl

end Sys2Proof.Laws
end

