-- ==== Sys2Proof/Tests/Slice0.lean ====
section
/-! SUPPORT. Small tests, their expected values taken from spec/95_test_vectors.md and from words written out
by hand from the encodings of 30_encoding.md; and, for each statement with hypotheses, a witness that meets
them. -/

namespace Sys2Proof.Tests

open Sys2Proof.Machine

/-- The illustrative RoundConstants RCT of 95_test_vectors.md. -/
def rct : Half := ⟨0x01234567, 0x89ABCDEF, 0xFEDCBA98, 0x76543210⟩

/-- A state with RCT, no schedule, and zeros elsewhere. -/
def base : State where
  rc := rct
  slen := 0
  rk := Vector.replicate 32 ⟨Half.zero, Half.zero⟩
  ks := Half.zero
  lh := Half.zero
  rh := Half.zero
  th := Half.zero
  idxI := 0
  idxJ := 0
  idxN := 0
  idxR := 0
  pin := []
  inbox := []
  outbox := []
  freeCount := 0

/-- `base` with the payload of the command in progress. -/
def given (p : Bytes) : State := { base with pin := p }

/-- `given` with a schedule of zero groups present. -/
def keyed (p : Bytes) : State := { base with pin := p, slen := 32 }

/-- The 32 bytes 00 01 .. 1F. -/
def inc : Bytes := (List.range 32).map (BitVec.ofNat 8)

/-- `n` zero bytes. -/
def zeros (n : Nat) : Bytes := List.replicate n 0

/-- The last response, if the outcome is a next state. -/
def answer : Host.Outcome State Fault Refusal → Option Response
  | .next t => t.outbox.getLast?
  | .fault _ => none
  | .refused _ => none

/-- The response OK with these Words. -/
def okWords (ws : List Word) : Option Response := some ⟨.ok, bytesOf ws⟩

/-- An error response. -/
def err (e : CoreError) : Option Response := some ⟨.error e, []⟩

/-! ## Well-formedness and decoding: words written out from R60 and R62, ZERO, IMM5, OP -/

theorem test_rotl_zero_ill_formed : (Instr.rotl 0).wf = false := by decide
theorem test_rotl_31_well_formed : (Instr.rotl 31).wf = true := by decide

theorem test_decode_add : decode 0b0000000_00000_0001 = .ok .add := by rfl
theorem test_decode_rotl_13 : decode 0b0000000_01101_0010 = .ok (.rotl 13) := by rfl
theorem test_decode_rotl_31 : decode 0b0000000_11111_0010 = .ok (.rotl 31) := by rfl
theorem test_decode_xor : decode 0b0000000_00000_0011 = .ok .xor := by rfl
theorem test_decode_xor4 : decode 0b0000000_00000_0100 = .ok .xor4 := by rfl
theorem test_decode_arx : decode 0b0000000_00000_0101 = .ok .arx := by rfl
theorem test_decode_phtp : decode 0b0000000_00000_0110 = .ok .phtp := by rfl
theorem test_decode_pht : decode 0b0000000_00000_0111 = .ok .pht := by rfl
theorem test_decode_ksched : decode 0b0000000_00000_1000 = .ok .ksched := by rfl
theorem test_decode_rdrk_0 : decode 0b0000000_00000_1001 = .ok (.rdrk 0) := by rfl
theorem test_decode_rdrk_31 : decode 0b0000000_11111_1001 = .ok (.rdrk 31) := by rfl
theorem test_decode_rdsl : decode 0b0000000_00000_1010 = .ok .rdsl := by rfl
theorem test_decode_rdrc : decode 0b0000000_00000_1011 = .ok .rdrc := by rfl
theorem test_decode_rf : decode 0b0000000_00000_1100 = .ok .rf := by rfl
theorem test_decode_enc : decode 0b0000000_00000_1101 = .ok .enc := by rfl
theorem test_decode_dec : decode 0b0000000_00000_1110 = .ok .dec := by rfl

/-! The illegal words of 95_test_vectors.md 2.7, one for each test of R64. -/

theorem test_illegal_zero_word : decode 0x0000 = .error .reservedOpcode := by rfl
theorem test_illegal_op_f : decode 0x000F = .error .reservedOpcode := by rfl
theorem test_illegal_all_ones : decode 0xFFFF = .error .zeroFieldSet := by rfl
theorem test_illegal_add_bit_9 : decode 0x0201 = .error .zeroFieldSet := by rfl
theorem test_illegal_add_bit_15 : decode 0x8001 = .error .zeroFieldSet := by rfl
theorem test_illegal_rotl_32 : decode 0x0202 = .error .zeroFieldSet := by rfl
theorem test_illegal_add_imm : decode 0x0011 = .error .unusedImmediate := by rfl
theorem test_illegal_enc_imm : decode 0x001D = .error .unusedImmediate := by rfl
theorem test_illegal_rotl_0 : decode 0x0002 = .error .rotationByZero := by rfl

theorem test_encode_rotl_13 : encode (.rotl 13) = 0x00D2 := by decide
theorem test_encode_rdrk_31 : encode (.rdrk 31) = 0x01F9 := by decide
theorem test_table_word : decodeTableWord 16 0x0112 = some (.rotl 17) := by rfl
theorem test_table_word_too_wide : decodeTableWord 16 0x10001 = none := by rfl

/-! ## Commands: vectors of 95_test_vectors.md 2.1 to 2.6 -/

theorem test_add_wraps :
    answer (exec .add (given (bytesOf [0xFFFFFFFF, 0x00000001]))) = okWords [0x00000000] := by decide
theorem test_add_bytes :
    answer (exec .add (given [0x12, 0x34, 0x56, 0x78, 0x9A, 0xBC, 0xDE, 0xF0])) =
      some ⟨.ok, [0xAC, 0xF1, 0x35, 0x68]⟩ := by decide
theorem test_rotl_13 :
    answer (exec (.rotl 13) (given (bytesOf [0x12345678]))) = okWords [0x8ACF0246] := by decide
theorem test_rotl_31 :
    answer (exec (.rotl 31) (given (bytesOf [0x00000001]))) = okWords [0x80000000] := by decide
theorem test_xor :
    answer (exec .xor (given (bytesOf [0x12345678, 0x9ABCDEF0]))) = okWords [0x88888888] := by decide
theorem test_xor_short :
    answer (exec .xor (given (zeros 7))) = err .invalidOperandLength := by decide
theorem test_xor4 :
    answer (exec .xor4 (given (bytesOf [1, 2, 3, 4, 5, 6, 7, 8]))) = okWords [4, 4, 4, 0xC] := by decide
theorem test_xor4_one_half :
    answer (exec .xor4 (given (zeros 16))) = err .invalidOperandLength := by decide
theorem test_arx_unit :
    answer (exec .arx (given (bytesOf [1, 0, 0, 0]))) =
      okWords [0x00040028, 0x00042028, 0x02101420, 0x40000001] := by decide
theorem test_arx_wraps :
    answer (exec .arx (given (bytesOf [0xFFFFFFFF, 0xFFFFFFFF, 0xFFFFFFFF, 0xFFFFFFFF]))) =
      okWords [0x003BFFB8, 0x003C1FB7, 0x1EF02460, 0xC001FFFD] := by decide
theorem test_phtp :
    answer (exec .phtp (given (bytesOf [0x12345678, 0x9ABCDEF0]))) =
      okWords [0xACF13568, 0xE26AF348] := by decide
theorem test_phtp_doubling_wraps :
    answer (exec .phtp (given (bytesOf [0, 0x80000000]))) = okWords [0x80000000, 0x80000000] := by decide
theorem test_pht_unit :
    answer (exec .pht (given (bytesOf [1, 0, 0, 0]))) = okWords [6, 0xE, 0x17, 0x34] := by decide
theorem test_pht_trace :
    answer (exec .pht (given (bytesOf rct.words))) =
      okWords [0x7676F9A4, 0xA3977730, 0x47AB7341, 0xC5FD13E1] := by decide
theorem test_kstep_first_key_word :
    absorbWord rct Half.zero 0 = ⟨0xD13C4921, 0xFDFDCB87, 0x1EACB890, 0xB8AA303E⟩ := by decide
theorem test_derived_group_0 :
    (deriveStore rct (zeros 32)).get 0 =
      ⟨⟨0xE5EA8ED3, 0x67CCC431, 0x7CDD91D6, 0xBBD7564A⟩,
        ⟨0x7A0ECCC2, 0x0D1077AE, 0x2ED26EE8, 0xF3AAC803⟩⟩ := by decide +kernel
theorem test_ksched_short :
    answer (exec .ksched (given (zeros 31))) = err .invalidKeyLength := by decide
theorem test_rdrk_zero_schedule :
    answer (exec (.rdrk 31) (keyed [])) = okWords [0, 0, 0, 0, 0, 0, 0, 0] := by decide
theorem test_rdrk_length_before_schedule :
    answer (exec (.rdrk 0) (given [0])) = err .invalidOperandLength := by decide
theorem test_rdsl_present : answer (exec .rdsl (keyed [])) = okWords [0x00000020] := by decide
theorem test_rdsl_with_payload : answer (exec .rdsl (given [0])) = err .invalidOperandLength := by decide
theorem test_rdrc :
    answer (exec .rdrc (given [])) =
      okWords [0x01234567, 0x89ABCDEF, 0xFEDCBA98, 0x76543210] := by decide
theorem test_rf :
    answer (exec .rf (given (bytesOf [1, 2, 3, 4, 5, 6, 7, 8, 9, 10, 11, 12]))) =
      okWords [0x172BC510, 0x751B946D, 0x157F94C0, 0xCFEA07A8] := by decide
theorem test_enc_block_length_first :
    answer (exec .enc (given (zeros 31))) = err .invalidBlockLength := by decide
theorem test_enc_zero_schedule :
    answer (exec .enc (keyed inc)) =
      okWords [0x720C005E, 0x6DE485BE, 0x274342F2, 0xFAA350DF,
        0x5C68532E, 0x8DB219AD, 0x1AADCE47, 0xE8576866] := by decide +kernel
theorem test_dec_no_schedule :
    answer (exec .dec (given inc)) = err .invalidScheduleLength := by decide
theorem test_dec_zero_schedule :
    answer (exec .dec (keyed inc)) =
      okWords [0x720C005E, 0x6DE485BE, 0x274342F2, 0xFAA350DF,
        0x5C68532E, 0x8DB219AD, 0x1AADCE47, 0xE8576866] := by decide +kernel

/-! ## Steps -/

theorem test_step_illegal_word :
    answer (step { base with inbox := [.command 0x0200 [0]] }) = err .illegalCommand := by decide
theorem test_first_step_after_reset :
    answer (step (State.reset.withFetchWord 16 0x00D2)) = okWords [0] := by decide
theorem test_enc_after_reset :
    answer (step (State.reset.withFetchWord 16 0x000D)) = err .invalidScheduleLength := by decide
theorem test_status_codes :
    [Status.ok, .error .invalidKeyLength, .error .invalidBlockLength, .error .invalidScheduleLength,
      .error .illegalCommand, .error .invalidOperandLength].map Status.code =
      [0x00, 0x01, 0x02, 0x03, 0x04, 0x05] := by decide

/-! ## Witnesses: for each statement with hypotheses, a case that meets them, clause by clause -/

theorem witness_DecodeInvertsEncode : (Instr.rotl 31).wf = true ∧ (Instr.rdrk 31).wf = true := by decide
theorem witness_EncodeInvertsDecode : decode 0x01F2 = .ok (.rotl 31) := rfl
theorem witness_OpcodeMapOfR62 :
    (0x0000 : BitVec 16).extractLsb' 0 4 = 0x0 ∧ (0x000F : BitVec 16).extractLsb' 0 4 = 0xF := by decide
theorem witness_IllegalWordsOfR64 :
    decode 0x000E = .ok .dec ∧ ({ base with inbox := [.command 0x0002 inc] } : State).inbox =
      .command 0x0002 inc :: [] ∧ decode 0x0002 = .error .rotationByZero := ⟨rfl, rfl, rfl⟩
theorem witness_command_event :
    ({ base with inbox := [.command 0x0001 (zeros 8), .reset] } : State).inbox =
      .command 0x0001 (zeros 8) :: [.reset] := rfl
theorem witness_IllegalCommandExactly :
    ({ base with inbox := [.command 0xFFFF []] } : State).inbox = .command 0xFFFF [] :: [] := rfl
theorem witness_StepRunsDecodedCommand :
    (∃ s : State, s.inbox = .command 0x0001 (zeros 8) :: [] ∧ decode 0x0001 = .ok .add) ∧
      base.inbox = [] :=
  ⟨⟨{ base with inbox := [.command 0x0001 (zeros 8)] }, rfl, rfl⟩, rfl⟩
theorem witness_ResetEffect :
    ({ base with inbox := [.reset] } : State).inbox = .reset :: [] ∧
      (Instr.enc.wf = true ∧ inc.length = payloadBytes .enc ∧ needsSchedule .enc = true) ∧
      ((Instr.rotl 1).wf = true ∧ (zeros 4).length = payloadBytes (.rotl 1) ∧
        needsSchedule (.rotl 1) = false) := by decide

/-- One byte short and one byte long, for every required length (R41). -/
theorem witness_wrong_lengths :
    (given (zeros 7)).pin.length ≠ 8 ∧ (given (zeros 9)).pin.length ≠ 8 ∧
    (given (zeros 3)).pin.length ≠ 4 ∧ (given (zeros 5)).pin.length ≠ 4 ∧
    (given (zeros 15)).pin.length ≠ 16 ∧ (given (zeros 17)).pin.length ≠ 16 ∧
    (given (zeros 31)).pin.length ≠ 32 ∧ (given (zeros 33)).pin.length ≠ 32 ∧
    (given (zeros 47)).pin.length ≠ 48 ∧ (given (zeros 49)).pin.length ≠ 48 ∧
    (given (zeros 1)).pin.length ≠ 0 := by decide

theorem witness_AddCommand :
    (given (zeros 7)).pin.length ≠ 8 ∧
      (given (bytesOf [0xFFFFFFFF, 1])).pin = bytesOf [0xFFFFFFFF, 1] := by decide
theorem witness_RotlCommand :
    (31 : BitVec 5) ≠ 0 ∧ (given (zeros 3)).pin.length ≠ 4 ∧
      (given (bytesOf [0x80000000])).pin = bytesOf [0x80000000] ∧
      ((0x0002 : BitVec 16).extractLsb' 0 4 = 0x2 ∧ (0x0002 : BitVec 16).extractLsb' 4 5 = 0) ∧
      ((0x0212 : BitVec 16).extractLsb' 0 4 = 0x2 ∧ (0x0212 : BitVec 16).extractLsb' 9 7 ≠ 0) := by decide
theorem witness_XorCommand :
    (given (zeros 9)).pin.length ≠ 8 ∧
      (given (bytesOf [0xAAAAAAAA, 0x55555555])).pin = bytesOf [0xAAAAAAAA, 0x55555555] := by decide
theorem witness_XorFourCommand :
    (given (zeros 16)).pin.length ≠ 32 ∧
      (given (bytesOf (rct.words ++ Half.zero.words))).pin = bytesOf (rct.words ++ Half.zero.words) := by
  decide
theorem witness_ArxCommand :
    (given (zeros 12)).pin.length ≠ 16 ∧
    ∃ a0 b0 c0 d0 a1 b1 c1 d1 a2 b2 c2 d2 : Word,
      (given (bytesOf [0xFFFFFFFF, 0, 0, 1])).pin = bytesOf [a0, b0, c0, d0] ∧
      a1 = a0 + d0 ∧ b1 = (b0 ^^^ a1).rotateLeft 13 ∧ c1 = c0 + b1 ∧ d1 = (d0 ^^^ c1).rotateLeft 17 ∧
      a2 = a1 + d1 ∧ b2 = (b1 ^^^ a2).rotateLeft 5 ∧ c2 = c1 + b2 ∧ d2 = (d1 ^^^ c2).rotateLeft 7 :=
  ⟨by decide, 0xFFFFFFFF, 0, 0, 1, _, _, _, _, _, _, _, _, rfl, rfl, rfl, rfl, rfl, rfl, rfl, rfl, rfl⟩
theorem witness_PhtpCommand :
    (given (zeros 4)).pin.length ≠ 8 ∧
    (given (bytesOf [0xFFFFFFFF, 0xFFFFFFFF])).pin = bytesOf [0xFFFFFFFF, 0xFFFFFFFF] ∧
    (0xFFFFFFFE : Word).toNat = ((0xFFFFFFFF : Word).toNat + (0xFFFFFFFF : Word).toNat) % 2 ^ 32 ∧
    (0xFFFFFFFC : Word).toNat =
      ((0xFFFFFFFE : Word).toNat + 2 * (0xFFFFFFFF : Word).toNat % 2 ^ 32) % 2 ^ 32 := by decide

/-- The mixer's values after `n` iterations, from `[1, 0, 0, 0]`. -/
def phtTrace : Nat → Half
  | 0 => ⟨1, 0, 0, 0⟩
  | n + 1 =>
    let T := phtTrace n
    ⟨(T.w0 + T.w1) ^^^ T.w2, (T.w0 + T.w1 + 2 * T.w1) ^^^ T.w3, T.w0, T.w1⟩

theorem witness_PhtCommand :
    (given (zeros 1)).pin.length ≠ 16 ∧
    ∃ a b c d e f : Nat → Word, (given (bytesOf [1, 0, 0, 0])).pin = bytesOf [a 0, b 0, c 0, d 0] ∧
      ∀ n, e n = a n + b n ∧ f n = e n + 2 * b n ∧ a (n + 1) = e n ^^^ c n ∧
        b (n + 1) = f n ^^^ d n ∧ c (n + 1) = a n ∧ d (n + 1) = b n :=
  ⟨by decide, fun n => (phtTrace n).w0, fun n => (phtTrace n).w1, fun n => (phtTrace n).w2,
    fun n => (phtTrace n).w3, fun n => (phtTrace n).w0 + (phtTrace n).w1,
    fun n => (phtTrace n).w0 + (phtTrace n).w1 + 2 * (phtTrace n).w1, rfl,
    fun _ => ⟨rfl, rfl, rfl, rfl, rfl, rfl⟩⟩
theorem witness_RfCommand :
    (given (zeros 32)).pin.length ≠ 48 ∧
      (given (bytesOf (rct.words ++ rct.words ++ rct.words))).pin =
        bytesOf (rct.words ++ rct.words ++ rct.words) := by decide
theorem witness_KschedCommand : (given (zeros 33)).pin.length ≠ 32 ∧ (given inc).pin.length = 32 := by decide
theorem witness_RdrkCommand :
    (given [0]).pin.length ≠ 0 ∧ ((given []).pin.length = 0 ∧ (given []).slen ≠ 32) ∧
      ((keyed []).pin.length = 0 ∧ (keyed []).slen = 32 ∧
        (keyed []).rk.toList[(31 : BitVec 5).toNat]? = some ⟨Half.zero, Half.zero⟩) ∧
      ((0x0209 : BitVec 16).extractLsb' 0 4 = 0x9 ∧ (0x0209 : BitVec 16).extractLsb' 9 7 ≠ 0) := by decide
theorem witness_RdslCommand :
    (given [0]).pin.length ≠ 0 ∧ (given []).pin.length = 0 ∧ (given []).slenLegal ∧ (keyed []).slenLegal :=
  ⟨by decide, rfl, .inl rfl, .inr rfl⟩
theorem witness_RdrcCommand :
    (given [0]).pin.length ≠ 0 ∧ (given []).pin.length = 0 ∧ step base = .next base := ⟨by decide, rfl, rfl⟩
theorem witness_EncCommand :
    (given (zeros 31)).pin.length ≠ 32 ∧ ((given inc).pin.length = 32 ∧ (given inc).slen ≠ 32) ∧
      ((keyed (bytesOf (Block.mk rct rct).words)).pin = bytesOf (Block.mk rct rct).words ∧
        (keyed []).slen = 32) := by decide
theorem witness_DecCommand :
    (given []).pin.length ≠ 32 ∧ ((given inc).pin.length = 32 ∧ (given inc).slen ≠ 32) ∧
      ((keyed (bytesOf (Block.mk rct rct).words)).pin = bytesOf (Block.mk rct rct).words ∧
        (keyed []).slen = 32) := by decide

theorem witness_OneResponsePerCommand :
    ({ base with inbox := [.command 0x0008 inc] } : State).inbox = .command 0x0008 inc :: [] := rfl
theorem witness_OrderOfChecks :
    ({ base with inbox := [.command 0x000D (zeros 31)] } : State).inbox =
      .command 0x000D (zeros 31) :: [] := rfl
theorem witness_KeyAndBlockLengthErrors :
    (∃ t r, exec .ksched (given []) = .next t ∧ t.outbox = (given []).outbox ++ [r] ∧
      r.status = .error .invalidKeyLength) ∧
    ∃ t r, exec .enc (given []) = .next t ∧ t.outbox = (given []).outbox ++ [r] :=
  ⟨⟨_, _, rfl, rfl, rfl⟩, _, _, rfl, rfl⟩
theorem witness_OperandLengthError :
    ∃ t r, (Instr.rotl 1).wf = true ∧ exec (.rotl 1) (given []) = .next t ∧
      t.outbox = (given []).outbox ++ [r] := ⟨_, _, rfl, rfl, rfl⟩
theorem witness_ScheduleLengthError :
    ∃ t r, exec .enc (given inc) = .next t ∧ t.outbox = (given inc).outbox ++ [r] ∧
      (given inc).slenLegal ∧ r.status = .error .invalidScheduleLength :=
  ⟨_, _, rfl, rfl, .inl rfl, rfl⟩
theorem witness_ErrorChangesNothing :
    ∃ (s t : State) (r : Response), s.inbox = .command 0x000D inc :: [] ∧ step s = .next t ∧
      t.outbox = s.outbox ++ [r] ∧ r.status = .error .invalidScheduleLength :=
  ⟨{ base with inbox := [.command 0x000D inc] }, _, _, rfl, rfl, rfl, rfl⟩
theorem witness_StatusesOfEachCommand :
    ∃ t r, Instr.ksched.wf = true ∧ exec .ksched (given []) = .next t ∧
      t.outbox = (given []).outbox ++ [r] := ⟨_, _, rfl, rfl, rfl⟩
theorem witness_ResponseLengths :
    ∃ t r, exec .rdrc (given []) = .next t ∧ t.outbox = (given []).outbox ++ [r] := ⟨_, _, rfl, rfl⟩
theorem witness_StepKeepsInvariant :
    ∃ s t : State, s.Inv ∧ step s = .next t ∧ t.outbox ≠ [] :=
  ⟨{ base with inbox := [.command 0x0001 []] }, _,
    ⟨.inl rfl, fun h => absurd h (by decide), by simp [State.errorsEmpty, base], rfl⟩, rfl, by decide⟩
theorem witness_CommandFrame : ∃ t, exec .add (given (zeros 8)) = .next t := ⟨_, rfl⟩
theorem witness_OnlyKschedAndResetWriteTheStore :
    ∃ s t : State, step s = .next t ∧ t.slen ≠ s.slen :=
  ⟨{ base with inbox := [.command 0x0008 (zeros 32)] }, _, rfl, by decide⟩
theorem witness_NoScheduleWithoutKsched :
    ∃ s t : State, s.slen = 0 ∧
      (∀ key, HostEvent.command 0x0008 key ∈ s.inbox → key.length ≠ 32) ∧
      Host.Core.run Sys2Proof.core 2 s = .next t :=
  ⟨{ base with inbox := [.command 0x0008 [], .command 0x000A []] }, _, rfl,
    by intro key h; simp at h; simp [h], rfl⟩
theorem witness_ResponseDependsOnlyOnScheduleState :
    ∃ (s u s' u' : State) (r r' : Response), s ≠ u ∧
      s.inbox = .command 0x000A [] :: [] ∧ u.inbox = .command 0x000A [] :: [] ∧
      s.rc = u.rc ∧ s.slen = u.slen ∧ s.rk = u.rk ∧ step s = .next s' ∧ step u = .next u' ∧
      s'.outbox = s.outbox ++ [r] ∧ u'.outbox = u.outbox ++ [r'] :=
  ⟨{ base with inbox := [.command 0x000A []] }, { base with inbox := [.command 0x000A []], idxI := 7 },
    _, _, _, _, by decide, rfl, rfl, rfl, rfl, rfl, rfl, rfl, rfl, rfl⟩
theorem witness_KschedTwiceIsOnce :
    ∃ t u, exec .ksched (given inc) = .next t ∧
      exec .ksched { t with pin := (given inc).pin } = .next u := ⟨_, _, rfl, rfl⟩

theorem witness_BytesAndWordsConvert : inc.length = 4 * 8 ∧ 7 < 8 := by decide
theorem witness_rotation_amounts : (0 < 1 ∧ 1 < 32) ∧ (0 < 31 ∧ 31 < 32) ∧ (1 + 30) % 32 ≠ 0 := by decide
theorem witness_RoundFunctionProperties : xor4 rct Half.zero = xor4 Half.zero rct := by decide

/-- KeyState after `j` key Words that are all zero, under RCT. -/
def absorbTrace : Nat → Half
  | 0 => ⟨0, 0, 0, 0⟩
  | j + 1 => kStep rct (kStep rct (kStep rct (kStep rct
      { absorbTrace j with w0 := (absorbTrace j).w0 ^^^ (List.replicate 8 (0 : Word)).getD j 0 })))

/-- KeyState at squeeze index `r`, from any KeyState after extend. -/
def squeezeTrace (start : Half) : Nat → Half
  | 0 => start
  | r + 1 => kStep rct (kStep rct (kStep rct (kStep rct (squeezeTrace start r))))

theorem witness_ScheduleOfAKey :
    ∃ (kw : List Word) (mix : Half → Half) (KS Q : Nat → Half), kw.length = 8 ∧
      (∀ S, mix S = arx ⟨S.w0 ^^^ rct.w0, S.w1 ^^^ rct.w1, S.w2 ^^^ rct.w2, S.w3 ^^^ rct.w3⟩) ∧
      KS 0 = ⟨0, 0, 0, 0⟩ ∧
      (∀ j < 8, KS (j + 1) = mix (mix (mix (mix { KS j with w0 := (KS j).w0 ^^^ kw.getD j 0 })))) ∧
      Q 0 = mix (mix (mix (mix (mix (mix (mix (mix (KS 8)))))))) ∧
      ∀ r, Q (r + 1) = mix (mix (mix (mix (Q r)))) :=
  ⟨List.replicate 8 0, kStep rct, absorbTrace, squeezeTrace _, rfl, fun _ => rfl, rfl, fun _ _ => rfl, rfl,
    fun _ => rfl⟩
theorem witness_DeriveScheduleChecksTheKey : (zeros 31).length ≠ 32 ∧ inc.length = 32 := by decide

/-- Left and Right after `i` rounds under 32 groups `(RCT, RCT)`, from a Block. -/
def roundTrace (B : Block) : Nat → Block
  | 0 => B
  | i + 1 => ⟨xor4 (roundTrace B i).hi (roundF (roundTrace B i).lo rct rct), (roundTrace B i).lo⟩

theorem witness_FeistelRecurrence :
    ∃ (B : Block) (S : List RoundKeyGroup) (L R : Nat → Half), S.length = 32 ∧ L 0 = B.lo ∧ R 0 = B.hi ∧
      ∀ (i : Nat) (G : RoundKeyGroup), S[i]? = some G →
        L (i + 1) = xor4 (R i) (roundF (L i) G.k1 G.k2) ∧ R (i + 1) = L i := by
  refine ⟨⟨rct, Half.zero⟩, List.replicate 32 ⟨rct, rct⟩, fun i => (roundTrace ⟨rct, Half.zero⟩ i).lo,
    fun i => (roundTrace ⟨rct, Half.zero⟩ i).hi, rfl, rfl, rfl, fun i G h => ?_⟩
  obtain rfl : G = ⟨rct, rct⟩ := List.eq_of_mem_replicate (List.mem_of_getElem? h)
  exact ⟨rfl, rfl⟩
theorem witness_EncryptAndDecryptFunctions :
    (zeros 33).length ≠ 32 ∧
    (inc.length = 32 ∧ (List.replicate 31 (RoundKeyGroup.mk rct rct)).length ≠ 32) ∧
    (bytesOf (Block.mk rct rct).words = bytesOf (Block.mk rct rct).words ∧
      (List.replicate 32 (RoundKeyGroup.mk rct rct)).length = 32) := by decide
theorem witness_CommandsComputeTheFunctions : (keyed inc).slen = 32 := rfl
theorem witness_DecryptionUndoesEncryption : inc.length = 32 ∧ (zeros 32).length = 32 := by decide
theorem witness_EncryptionProperties :
    ∀ G ∈ List.replicate 32 (RoundKeyGroup.mk ⟨0, 0, 0, 0⟩ ⟨0, 0, 0, 0⟩),
      G = ⟨⟨0, 0, 0, 0⟩, ⟨0, 0, 0, 0⟩⟩ := fun _ h => List.eq_of_mem_replicate h

end Sys2Proof.Tests
end

