-- ==== Sys2Proof/Proofs/Scope.lean ====
section
/-! SUPPORT. Bytes and Words (00_scope.md R14), and that every command and every step ends in a next state
(00_scope.md R16, 60_exceptions.md R175). -/

namespace Sys2Proof.Machine

/-! ## Bytes and Words -/

theorem append_toNat {m n : Nat} (x : BitVec m) (y : BitVec n) :
    (x ++ y).toNat = x.toNat * 2 ^ n + y.toNat := by
  rw [BitVec.toNat_append, ← Nat.shiftLeft_add_eq_or_of_lt y.isLt, Nat.shiftLeft_eq]

theorem be32_toNat (b0 b1 b2 b3 : Byte) : (be32 b0 b1 b2 b3).toNat =
    b0.toNat * 2 ^ 24 + b1.toNat * 2 ^ 16 + b2.toNat * 2 ^ 8 + b3.toNat := by
  simp only [be32, append_toNat]
  omega

theorem bytesBE_toNat (w : Word) : (bytesBE w).map BitVec.toNat =
    [w.toNat / 2 ^ 24 % 2 ^ 8, w.toNat / 2 ^ 16 % 2 ^ 8, w.toNat / 2 ^ 8 % 2 ^ 8, w.toNat % 2 ^ 8] := by
  simp [bytesBE, Nat.shiftRight_eq_div_pow]

@[simp] theorem wordsOf_bytesOf (ws : List Word) : wordsOf (bytesOf ws) = ws := by
  induction ws with
  | nil => rfl
  | cons w ws ih => simp [bytesOf_cons, bytesBE, wordsOf, ih]

theorem bytesOf_wordsOf {n : Nat} {p : Bytes} (h : p.length = 4 * n) : bytesOf (wordsOf p) = p := by
  obtain ⟨ws, -, rfl⟩ := exists_words n p h
  rw [wordsOf_bytesOf]

theorem wordsOf_length {n : Nat} {p : Bytes} (h : p.length = 4 * n) : (wordsOf p).length = n := by
  obtain ⟨ws, hn, rfl⟩ := exists_words n p h
  rw [wordsOf_bytesOf, hn]

/-- Word `j` of a payload is made of its bytes `4j` to `4j + 3`, wherever the payload reaches so far. -/
theorem wordsOf_getElem? {j : Nat} {p : Bytes} (h : 4 * j + 4 ≤ p.length) :
    (wordsOf p)[j]? = some (be32 (p.getD (4 * j) 0) (p.getD (4 * j + 1) 0) (p.getD (4 * j + 2) 0)
      (p.getD (4 * j + 3) 0)) := by
  induction p using wordsOf.induct generalizing j with
  | case1 b0 b1 b2 b3 rest ih =>
    cases j with
    | zero => rfl
    | succ j => exact ih (by simp at h; omega)
  | case2 p short =>
    match p, h with
    | b0 :: b1 :: b2 :: b3 :: rest, _ => exact (short b0 b1 b2 b3 rest rfl).elim

/-- Settles O39. -/
theorem bytesAndWordsConvert : Obligations.BytesAndWordsConvert :=
  ⟨be32_toNat, bytesBE_toNat,
    fun _ _ _ hp hj => ⟨wordsOf_length hp, wordsOf_getElem? (by omega)⟩,
    fun ws => ⟨rfl, bytesOf_length ws⟩, wordsOf_bytesOf, fun _ _ => bytesOf_wordsOf⟩

/-! ## Loads inside the payload -/

/-- A byte-addressed load inside the payload reads a Word (R44). -/
theorem loadWord_exists {k : Nat} {p : Bytes} (h : 4 * k + 4 ≤ p.length) : ∃ w, loadWord k p = some w := by
  have hread : memRead (4 * k) 4 p = some ((p.drop (4 * k)).take 4) := if_pos h
  have hlen : ((p.drop (4 * k)).take 4).length = 4 := by simp; omega
  obtain ⟨b0, b1, b2, b3, hb⟩ := List.length_eq_four.mp hlen
  exact ⟨be32 b0 b1 b2 b3, by simp only [loadWord, hread, hb]⟩

theorem loadHalf_exists {k : Nat} {p : Bytes} (h : 4 * k + 16 ≤ p.length) : ∃ H, loadHalf k p = some H := by
  obtain ⟨a, ha⟩ := loadWord_exists (k := k) (p := p) (by omega)
  obtain ⟨b, hb⟩ := loadWord_exists (k := k + 1) (p := p) (by omega)
  obtain ⟨c, hc⟩ := loadWord_exists (k := k + 2) (p := p) (by omega)
  obtain ⟨d, hd⟩ := loadWord_exists (k := k + 3) (p := p) (by omega)
  exact ⟨⟨a, b, c, d⟩, by simp [loadHalf, ha, hb, hc, hd]⟩

theorem loadBlock_exists {p : Bytes} (h : 32 ≤ p.length) : ∃ B, loadBlock 0 p = some B := by
  obtain ⟨lo, hlo⟩ := loadHalf_exists (k := 0) (p := p) (by omega)
  obtain ⟨hi, hhi⟩ := loadHalf_exists (k := 4) (p := p) (by omega)
  exact ⟨⟨lo, hi⟩, by simp [loadBlock, hlo, hhi]⟩

/-! ## Every command answers -/

/-- The outcome is a next state: neither a fault nor a refusal. -/
def EndsInNext (o : Host.Outcome State Fault Refusal) : Prop := ∃ t, o = .next t

theorem endsInNext_next (t : State) : EndsInNext (.next t) := ⟨t, rfl⟩

theorem checkPayload_endsInNext {i : Instr} {s : State} {go : Host.Outcome State Fault Refusal}
    (h : s.pin.length = payloadBytes i → EndsInNext go) : EndsInNext (checkPayload i s go) := by
  by_cases hp : s.pin.length = payloadBytes i
  · rw [checkPayload_right hp]; exact h hp
  · rw [checkPayload_wrong hp]; exact endsInNext_next _

theorem checkSchedule_endsInNext {s : State} {go : Host.Outcome State Fault Refusal}
    (h : EndsInNext go) : EndsInNext (checkSchedule s go) := by
  by_cases hs : s.slen = 32
  · rw [checkSchedule_present hs]; exact h
  · rw [checkSchedule_absent hs]; exact endsInNext_next _

theorem deliver_endsInNext {pout : Option Bytes} {s : State} (h : ∃ p, pout = some p) :
    EndsInNext (deliver pout s) := by
  obtain ⟨p, rfl⟩ := h
  exact endsInNext_next _

/-- A unit command answers if its POUT can be computed from every payload of the length it asks for. -/
theorem unitCommand_endsInNext {i : Instr} {work : Bytes → Option Bytes} {leave : State → State} {s : State}
    (h : ∀ p : Bytes, p.length = payloadBytes i → ∃ q, work p = some q) :
    EndsInNext (unitCommand i work leave s) :=
  checkPayload_endsInNext fun hp => deliver_endsInNext (h s.pin hp)

/-- POUT of a command that reads one Word. -/
theorem fromWord_exists (f : Word → Bytes) {p : Bytes} (h : 4 ≤ p.length) :
    ∃ q, (do let x ← loadWord 0 p; return f x) = some q := by
  obtain ⟨x, hx⟩ := loadWord_exists (k := 0) h
  exact ⟨f x, by simp [hx]⟩

/-- POUT of a command that reads two Words. -/
theorem fromTwoWords_exists (f : Word → Word → Bytes) {p : Bytes} (h : 8 ≤ p.length) :
    ∃ q, (do let x ← loadWord 0 p; let y ← loadWord 1 p; return f x y) = some q := by
  obtain ⟨x, hx⟩ := loadWord_exists (k := 0) (p := p) (by omega)
  obtain ⟨y, hy⟩ := loadWord_exists (k := 1) h
  exact ⟨f x y, by simp [hx, hy]⟩

/-- POUT of a command that reads one Half. -/
theorem fromHalf_exists (f : Half → Bytes) {p : Bytes} (h : 16 ≤ p.length) :
    ∃ q, (do let H ← loadHalf 0 p; return f H) = some q := by
  obtain ⟨H, hH⟩ := loadHalf_exists (k := 0) h
  exact ⟨f H, by simp [hH]⟩

/-- POUT of a command that reads two Halves. -/
theorem fromTwoHalves_exists (f : Half → Half → Bytes) {p : Bytes} (h : 32 ≤ p.length) :
    ∃ q, (do let H ← loadHalf 0 p; let G ← loadHalf 4 p; return f H G) = some q := by
  obtain ⟨H, hH⟩ := loadHalf_exists (k := 0) (p := p) (by omega)
  obtain ⟨G, hG⟩ := loadHalf_exists (k := 4) h
  exact ⟨f H G, by simp [hH, hG]⟩

/-- POUT of a command that reads three Halves. -/
theorem fromThreeHalves_exists (f : Half → Half → Half → Bytes) {p : Bytes} (h : 48 ≤ p.length) :
    ∃ q, (do let L ← loadHalf 0 p; let K1 ← loadHalf 4 p; let K2 ← loadHalf 8 p; return f L K1 K2)
      = some q := by
  obtain ⟨L, hL⟩ := loadHalf_exists (k := 0) (p := p) (by omega)
  obtain ⟨K1, hK1⟩ := loadHalf_exists (k := 4) (p := p) (by omega)
  obtain ⟨K2, hK2⟩ := loadHalf_exists (k := 8) h
  exact ⟨f L K1 K2, by simp [hL, hK1, hK2]⟩

/-- POUT of a command that reads a Block. -/
theorem fromBlock_exists (f : Block → Bytes) {p : Bytes} (h : 32 ≤ p.length) :
    ∃ q, (loadBlock 0 p).map f = some q := by
  obtain ⟨B, hB⟩ := loadBlock_exists h
  exact ⟨f B, by simp [hB]⟩

theorem execRotl_endsInNext (a : BitVec 5) (s : State) : EndsInNext (execRotl a s) := by
  unfold execRotl
  split
  · exact endsInNext_next _
  · exact unitCommand_endsInNext fun _ hp => fromWord_exists _ hp.ge

theorem execKsched_endsInNext (s : State) : EndsInNext (execKsched s) := by
  unfold execKsched
  split
  · exact endsInNext_next _
  · exact endsInNext_next _

/-- Every command answers, in every state and with every payload: a load happens only after the payload
check, and so inside the payload (R44). -/
theorem exec_endsInNext (i : Instr) (s : State) : EndsInNext (exec i s) := by
  cases i with
  | add => rw [exec, execAdd]; exact unitCommand_endsInNext fun _ hp => fromTwoWords_exists _ hp.ge
  | rotl a => exact execRotl_endsInNext a s
  | xor => rw [exec, execXor]; exact unitCommand_endsInNext fun _ hp => fromTwoWords_exists _ hp.ge
  | xor4 => rw [exec, execXor4]; exact unitCommand_endsInNext fun _ hp => fromTwoHalves_exists _ hp.ge
  | arx => rw [exec, execArx]; exact unitCommand_endsInNext fun _ hp => fromHalf_exists _ hp.ge
  | phtp => rw [exec, execPhtp]; exact unitCommand_endsInNext fun _ hp => fromTwoWords_exists _ hp.ge
  | pht => rw [exec, execPht]; exact unitCommand_endsInNext fun _ hp => fromHalf_exists _ hp.ge
  | ksched => exact execKsched_endsInNext s
  | rdrk g => exact checkPayload_endsInNext fun _ => checkSchedule_endsInNext (endsInNext_next _)
  | rdsl => exact checkPayload_endsInNext fun _ => endsInNext_next _
  | rdrc => exact checkPayload_endsInNext fun _ => endsInNext_next _
  | rf => rw [exec, execRf]; exact unitCommand_endsInNext fun _ hp => fromThreeHalves_exists _ hp.ge
  | enc =>
    exact checkPayload_endsInNext fun hp =>
      checkSchedule_endsInNext (deliver_endsInNext (fromBlock_exists _ hp.ge))
  | dec =>
    exact checkPayload_endsInNext fun hp =>
      checkSchedule_endsInNext (deliver_endsInNext (fromBlock_exists _ hp.ge))

/-! ## Every step -/

theorem step_idle {s : State} (h : s.inbox = []) : step s = .next s := by
  simp [step, takeEvent, h]

theorem step_legal {s : State} {cw : BitVec 16} {payload : Bytes} {rest : List HostEvent} {i : Instr}
    (h : s.inbox = .command cw payload :: rest) (hd : decode cw = .ok i) :
    step s = exec i (s.begin payload rest) := by
  rw [step_command h, issue_legal hd]

theorem step_illegal {s : State} {cw : BitVec 16} {payload : Bytes} {rest : List HostEvent} {e : IllegalWord}
    (h : s.inbox = .command cw payload :: rest) (hd : decode cw = .error e) :
    step s = .next ((s.begin payload rest).raise .illegalCommand) := by
  rw [step_command h, issue_illegal hd]

theorem step_endsInNext (s : State) : EndsInNext (step s) := by
  match h : s.inbox with
  | [] => exact ⟨s, step_idle h⟩
  | .reset :: rest => exact ⟨_, step_reset h⟩
  | .command cw payload :: rest =>
    cases hd : decode cw with
    | error e => exact ⟨_, step_illegal h hd⟩
    | ok i => rw [step_legal h hd]; exact exec_endsInNext i _

/-- Settles O33: every command answers, and a step is idle, a reset, the answer to an illegal word, or a
command. -/
theorem machineNeverStops : Obligations.MachineNeverStops := ⟨step_endsInNext, exec_endsInNext⟩

/-- Settles O7. -/
theorem stepRunsDecodedCommand : Obligations.StepRunsDecodedCommand :=
  ⟨fun _ _ _ _ _ h hd => step_legal h hd, fun _ h => step_idle h⟩

end Sys2Proof.Machine
end

section
/-! SUPPORT. What one command can do to the state, said once, and what follows from it: the frame of every
command, the invariant, and who writes the schedule store (10_state.md R20, R24, R31, R32). -/

namespace Sys2Proof.Machine

/-! ## How a command ends -/

/-- The state a command leaves when it does not raise, before its response: KSCHED commits the schedule of
its key (R126), the commands with transients leave free values in them, the others leave all registers. -/
def State.finish : Instr → State → State
  | .ksched => fun s => s.leaveSchedule.commitSchedule (deriveStore s.rc s.pin)
  | .pht => State.leavePht
  | .rf => State.leaveRound
  | .enc => State.leaveFeistel
  | .dec => State.leaveFeistel
  | _ => id

/-- The four ways a command can end, in the order of its checks (R176). -/
inductive CommandEnds (i : Instr) (s : State) : State → Prop
  | illFormed (ill : i.wf = false) : CommandEnds i s (s.raise .illegalCommand)
  | wrongLength (wf : i.wf = true) (wrong : s.pin.length ≠ payloadBytes i) :
      CommandEnds i s (s.raise (payloadError i))
  | noSchedule (right : s.pin.length = payloadBytes i) (needs : needsSchedule i = true)
      (absent : s.slen ≠ 32) : CommandEnds i s (s.raise .invalidScheduleLength)
  | done (wf : i.wf = true) (right : s.pin.length = payloadBytes i)
      (present : needsSchedule i = true → s.slen = 32) (p : Bytes) :
      CommandEnds i s ((s.finish i).respond .ok p)

theorem checkPayload_ends {i : Instr} {s t : State} {go : Host.Outcome State Fault Refusal}
    (wf : i.wf = true) (hgo : s.pin.length = payloadBytes i → go = .next t → CommandEnds i s t)
    (h : checkPayload i s go = .next t) : CommandEnds i s t := by
  rcases checkPayload_next h with ⟨wrong, rfl⟩ | ⟨right, hg⟩
  · exact .wrongLength wf wrong
  · exact hgo right hg

theorem unitCommand_ends {i : Instr} {work : Bytes → Option Bytes} {s t : State} (wf : i.wf = true)
    (free : needsSchedule i = false) (h : unitCommand i work (State.finish i) s = .next t) :
    CommandEnds i s t := by
  rcases unitCommand_next h with ⟨wrong, rfl⟩ | ⟨right, p, -, rfl⟩
  · exact .wrongLength wf wrong
  · exact .done wf right (by simp [free]) p

/-- A command that needs a schedule: the payload check, the schedule check, then its answer. -/
theorem scheduleCommand_ends {i : Instr} {s t : State} {go : Host.Outcome State Fault Refusal}
    (wf : i.wf = true) (needs : needsSchedule i = true)
    (hgo : go = .next t → ∃ p, t = (s.finish i).respond .ok p)
    (h : checkPayload i s (checkSchedule s go) = .next t) : CommandEnds i s t := by
  refine checkPayload_ends wf (fun right hs => ?_) h
  rcases checkSchedule_next hs with ⟨absent, rfl⟩ | ⟨present, hg⟩
  · exact .noSchedule right needs absent
  · obtain ⟨p, rfl⟩ := hgo hg
    exact .done wf right (fun _ => present) p

/-- A command that only reads registers: the payload check, then its answer. -/
theorem readCommand_ends {i : Instr} {s t : State} {p : Bytes} (wf : i.wf = true)
    (free : needsSchedule i = false)
    (h : checkPayload i s (.next ((s.finish i).respond .ok p)) = .next t) : CommandEnds i s t := by
  refine checkPayload_ends wf (fun right hg => ?_) h
  cases hg
  exact .done wf right (by simp [free]) p

theorem execRotl_ends {a : BitVec 5} {s t : State} (h : execRotl a s = .next t) :
    CommandEnds (.rotl a) s t := by
  unfold execRotl at h
  split at h
  · next ha => cases h; exact .illFormed (by simp [Instr.wf, ha])
  · next ha => exact unitCommand_ends (bne_iff_ne.mpr ha) rfl h

theorem execKsched_ends {s t : State} (h : execKsched s = .next t) : CommandEnds .ksched s t := by
  by_cases hk : s.pin.length = 32
  · simp only [execKsched, deriveSchedule, hk, ne_eq, not_true_eq_false, if_false] at h
    cases h
    exact .done rfl hk (by simp [needsSchedule]) []
  · simp only [execKsched, deriveSchedule, hk, ne_eq, not_false_eq_true, if_true] at h
    cases h
    exact .wrongLength rfl hk

/-- Everything a command can do. -/
theorem exec_next {i : Instr} {s t : State} (h : exec i s = .next t) : CommandEnds i s t := by
  cases i with
  | rotl a => exact execRotl_ends h
  | ksched => exact execKsched_ends h
  | rdrk g => exact scheduleCommand_ends rfl rfl (fun hg => by cases hg; exact ⟨_, rfl⟩) h
  | rdsl => exact readCommand_ends rfl rfl h
  | rdrc => exact readCommand_ends rfl rfl h
  | enc => exact scheduleCommand_ends rfl rfl (fun hg => (deliver_next hg).imp fun _ hp => hp.2) h
  | dec => exact scheduleCommand_ends rfl rfl (fun hg => (deliver_next hg).imp fun _ hp => hp.2) h
  | _ => unfold exec at h; exact unitCommand_ends rfl rfl h

/-- A command raises, or finishes with a payload of the length it asks for. -/
theorem exec_raises_or_finishes {i : Instr} {s t : State} (h : exec i s = .next t) :
    (∃ e, t = s.raise e) ∨
      (s.pin.length = payloadBytes i ∧ ∃ p, t = (s.finish i).respond .ok p) := by
  cases exec_next h with
  | illFormed => exact .inl ⟨_, rfl⟩
  | wrongLength => exact .inl ⟨_, rfl⟩
  | noSchedule => exact .inl ⟨_, rfl⟩
  | done _ right _ p => exact .inr ⟨right, p, rfl⟩

/-! ## What a finished command leaves unchanged -/

section
variable (s : State) {i : Instr}

@[simp] theorem State.finish_rc (i : Instr) : (s.finish i).rc = s.rc := by cases i <;> rfl

@[simp] theorem State.finish_inbox (i : Instr) : (s.finish i).inbox = s.inbox := by cases i <;> rfl

@[simp] theorem State.finish_outbox (i : Instr) : (s.finish i).outbox = s.outbox := by cases i <;> rfl

theorem State.finish_schedule (hk : i ≠ .ksched) :
    (s.finish i).slen = s.slen ∧ (s.finish i).rk = s.rk ∧ (s.finish i).ks = s.ks ∧
      (s.finish i).idxJ = s.idxJ ∧ (s.finish i).idxR = s.idxR := by
  cases i with
  | ksched => exact absurd rfl hk
  | _ => exact ⟨rfl, rfl, rfl, rfl, rfl⟩

theorem State.finish_feistel (he : i ≠ .enc) (hd : i ≠ .dec) :
    (s.finish i).lh = s.lh ∧ (s.finish i).rh = s.rh ∧ (s.finish i).idxI = s.idxI := by
  cases i with
  | enc => exact absurd rfl he
  | dec => exact absurd rfl hd
  | _ => exact ⟨rfl, rfl, rfl⟩

theorem State.finish_th (hr : i ≠ .rf) (he : i ≠ .enc) (hd : i ≠ .dec) : (s.finish i).th = s.th := by
  cases i with
  | rf => exact absurd rfl hr
  | enc => exact absurd rfl he
  | dec => exact absurd rfl hd
  | _ => rfl

theorem State.finish_idxN (hp : i ≠ .pht) (hk : i ≠ .ksched) (hr : i ≠ .rf) (he : i ≠ .enc)
    (hd : i ≠ .dec) : (s.finish i).idxN = s.idxN ∧ (s.finish i).freeCount = s.freeCount := by
  cases i with
  | pht => exact absurd rfl hp
  | ksched => exact absurd rfl hk
  | rf => exact absurd rfl hr
  | enc => exact absurd rfl he
  | dec => exact absurd rfl hd
  | _ => exact ⟨rfl, rfl⟩

end

/-- Settles O34: an error writes the response only, and a finished command what `State.finish` says. -/
theorem commandFrame : Obligations.CommandFrame := by
  intro i s t h
  rcases exec_raises_or_finishes h with ⟨e, rfl⟩ | ⟨-, p, rfl⟩
  · simp
  · exact ⟨s.finish_rc i, s.finish_inbox i, rfl, ⟨⟨.ok, p⟩, by simp⟩, s.finish_schedule, s.finish_feistel,
      s.finish_th, s.finish_idxN⟩

/-! ## The invariant -/

/-- The invariant but for PIN: what holds while a command is in progress as well. -/
def State.Settled (s : State) : Prop := s.slenLegal ∧ s.scheduleDerived ∧ s.errorsEmpty

theorem State.Inv.settled {s : State} (h : s.Inv) : s.Settled :=
  let ⟨legal, derived, empty, _⟩ := h
  ⟨legal, derived, empty⟩

/-- With SLEN = 0 there is no schedule to speak of. -/
theorem scheduleDerived_of_slen_zero {s : State} (h : s.slen = 0) : s.scheduleDerived := by
  intro present
  exact absurd (h.symm.trans present) (by decide)

theorem errorsEmpty_respond {s : State} {st : Status} {p : Bytes} (h : s.errorsEmpty)
    (hp : st ≠ .ok → p = []) : (s.respond st p).errorsEmpty := by
  intro r hr
  rw [State.respond_outbox, List.mem_append, List.mem_singleton] at hr
  rcases hr with old | rfl
  · exact h r old
  · exact hp

/-- Answering a command restores the whole invariant: PIN is empty again. -/
theorem respond_inv {s : State} {st : Status} {p : Bytes} (h : s.Settled) (hp : st ≠ .ok → p = []) :
    (s.respond st p).Inv :=
  let ⟨legal, derived, empty⟩ := h
  ⟨legal, derived, errorsEmpty_respond empty hp, rfl⟩

theorem raise_inv {s : State} (e : CoreError) (h : s.Settled) : (s.raise e).Inv :=
  respond_inv h fun _ => rfl

theorem finish_settled {i : Instr} {s : State} (h : s.Settled) (hp : s.pin.length = payloadBytes i) :
    (s.finish i).Settled := by
  obtain ⟨legal, derived, empty⟩ := h
  have hempty : (s.finish i).errorsEmpty := by simpa [State.errorsEmpty] using empty
  by_cases hk : i = .ksched
  · subst hk
    exact ⟨.inr rfl, fun _ => ⟨s.pin, hp, rfl⟩, hempty⟩
  · obtain ⟨hslen, hrk, -⟩ := s.finish_schedule hk
    refine ⟨?_, ?_, hempty⟩
    · rwa [State.slenLegal, hslen]
    · rwa [State.scheduleDerived, hslen, hrk, State.finish_rc]

/-- A command takes a state that is settled, whatever its payload, to one between commands. -/
theorem exec_inv {i : Instr} {s t : State} (hs : s.Settled) (h : exec i s = .next t) : t.Inv := by
  rcases exec_raises_or_finishes h with ⟨e, rfl⟩ | ⟨hp, p, rfl⟩
  · exact raise_inv e hs
  · exact respond_inv (finish_settled hs hp) (absurd rfl)

theorem takeReset_inv {s : State} (rest : List HostEvent) (h : s.errorsEmpty) : (s.takeReset rest).Inv :=
  ⟨.inl rfl, scheduleDerived_of_slen_zero rfl, h, rfl⟩

/-- Settles O32, by what a step can do: idle, reset, the answer to an illegal word, or a command. -/
theorem stepKeepsInvariant : Obligations.StepKeepsInvariant := by
  intro s t hs h
  have begun (p : Bytes) (rest : List HostEvent) : (s.begin p rest).Settled := hs.settled
  rcases step_next h with ⟨-, rfl⟩ | ⟨rest, -, rfl⟩ | ⟨_, p, rest, _, -, -, rfl⟩ | ⟨_, p, rest, i, -, -, hx⟩
  · exact hs
  · obtain ⟨-, -, empty⟩ := hs.settled
    exact takeReset_inv rest empty
  · exact raise_inv _ (begun p rest)
  · exact exec_inv (begun p rest) hx

/-- Settles O9. -/
theorem resetMeetsInvariant : Obligations.ResetMeetsInvariant :=
  ⟨⟨.inl rfl, scheduleDerived_of_slen_zero rfl, nofun, rfl⟩, rfl, rfl⟩

/-! ## A word that decodes, and who writes the store -/

/-- The fields of a command word, from bit 15 down (R60). -/
theorem fields_append (cw : BitVec 16) : zeroField cw ++ immField cw ++ opField cw = cw := by
  apply BitVec.eq_of_getLsbD_eq
  intro k hk
  simp only [zeroField, immField, opField, BitVec.getLsbD_append, BitVec.getLsbD_extractLsb']
  by_cases h0 : k < 4
  · simp [h0]
  · by_cases h1 : k - 4 < 5
    · simp [h0, h1, show 4 + (k - 4) = k by omega]
    · simp [h0, h1, show 9 + (k - 4 - 5) = k by omega, show k - 4 - 5 < 7 by omega]

/-- A row of the opcode map has its own OP, and the immediate IMM5 or, but for ROTL and RDRK, none. -/
theorem opcodeRow_some {op : BitVec 4} {imm : BitVec 5} {i : Instr} (h : opcodeRow op imm = some i) :
    i.opcode = op ∧ (i.immediate = imm ∨ op ≠ 2 ∧ op ≠ 9 ∧ i.immediate = 0) := by
  have every : ∀ (op : BitVec 4) (imm : BitVec 5), ∀ i ∈ opcodeRow op imm,
      i.opcode = op ∧ (i.immediate = imm ∨ op ≠ 2 ∧ op ≠ 9 ∧ i.immediate = 0) := by decide
  exact every op imm i h

/-- What a word that decodes has passed: the tests of R64. -/
theorem decode_ok {cw : BitVec 16} {i : Instr} (h : decode cw = .ok i) :
    zeroField cw = 0 ∧ opcodeRow (opField cw) (immField cw) = some i ∧
      (opField cw ≠ 2 → opField cw ≠ 9 → immField cw = 0) ∧ (opField cw = 2 → immField cw ≠ 0) := by
  unfold decode at h
  split at h
  · cases h
  · next hz =>
    split at h
    · cases h
    · next row hrow =>
      split at h
      · cases h
      · next unused =>
        split at h
        · cases h
        · next rotation =>
          cases h
          refine ⟨not_not.mp hz, hrow, fun h2 h9 => ?_, fun h2 himm => rotation ⟨h2, himm⟩⟩
          exact not_not.mp fun himm => unused ⟨h2, h9, himm⟩

theorem encode_of_decode {cw : BitVec 16} {i : Instr} (h : decode cw = .ok i) : encode i = cw := by
  obtain ⟨hz, hrow, hunused, -⟩ := decode_ok h
  obtain ⟨hop, himm⟩ := opcodeRow_some hrow
  have himm : i.immediate = immField cw := by
    rcases himm with himm | ⟨h2, h9, h0⟩
    · exact himm
    · exact h0.trans (hunused h2 h9).symm
  rw [encode, hop, himm, ← hz, fields_append]

/-- A command that changes RK or SLEN is KSCHED with a key of 32 bytes. -/
theorem exec_writes_store {i : Instr} {s t : State} (h : exec i s = .next t)
    (hw : t.rk ≠ s.rk ∨ t.slen ≠ s.slen) : i = .ksched ∧ s.pin.length = 32 := by
  rcases exec_raises_or_finishes h with ⟨e, rfl⟩ | ⟨hp, p, rfl⟩
  · simp at hw
  · have hk : i = .ksched := by
      by_contra hk
      obtain ⟨hslen, hrk, -⟩ := s.finish_schedule hk
      simp [hslen, hrk] at hw
    subst hk
    exact ⟨rfl, hp⟩

/-- Settles O35, by what a step can do; of the commands only KSCHED writes the store, and its word is
0x0008. -/
theorem onlyKschedAndResetWriteTheStore : Obligations.OnlyKschedAndResetWriteTheStore := by
  intro s t h
  rcases step_next h with ⟨-, rfl⟩ | ⟨rest, hi, rfl⟩ | ⟨_, _, _, _, -, -, rfl⟩ | ⟨cw, key, rest, i, hi, hd, hx⟩
  · simp
  · exact ⟨rfl, fun _ => .inl ⟨rest, hi⟩⟩
  · simp
  · obtain ⟨hrc, -⟩ := commandFrame i _ t hx
    refine ⟨hrc, fun hw => .inr ?_⟩
    obtain ⟨rfl, hlen⟩ := exec_writes_store hx hw
    obtain rfl : 0x0008 = cw := encode_of_decode hd
    exact ⟨key, rest, hi, hlen⟩

end Sys2Proof.Machine
end

section
/-! SUPPORT. Payloads and the schedule store (20_memory.md): the length of every response (R41), a second
KSCHED with the same key (R45), and what the answer to a command may depend on (R47). -/

namespace Sys2Proof.Machine

/-! ## The length of a response -/

theorem storeTwoWords_nil (v w : Word) : storeWord 1 w (storeWord 0 v []) = bytesOf [v, w] := by
  rw [storeWord_nil, storeWord_end _ _ 1 rfl]; rfl

theorem storeTwoHalves_nil (H G : Half) :
    storeHalf 4 G (storeHalf 0 H []) = bytesOf (H.words ++ G.words) := by
  rw [storeHalf_nil, storeHalf_end _ _ 4 rfl]

theorem storeWord_nil_length (w : Word) : (storeWord 0 w []).length = 4 := by
  rw [storeWord_nil, bytesOf_length]; rfl

theorem storeTwoWords_nil_length (v w : Word) :
    (storeWord 1 w (storeWord 0 v [])).length = 8 := by
  rw [storeTwoWords_nil, bytesOf_length]; rfl

theorem storeHalf_nil_length (H : Half) : (storeHalf 0 H []).length = 16 := by
  rw [storeHalf_nil, bytesOf_length]; rfl

theorem storeTwoHalves_nil_length (H G : Half) :
    (storeHalf 4 G (storeHalf 0 H [])).length = 32 := by
  rw [storeTwoHalves_nil, bytesOf_length]; rfl

theorem storeBlock_nil_length (B : Block) : (storeBlock 0 B []).length = 32 := by
  rw [storeBlock_nil, bytesOf_length]; rfl

/-- A POUT, where it can be computed, has `n` bytes. -/
def PoutLength (n : Nat) (pout : Option Bytes) : Prop := ∀ q, pout = some q → q.length = n

theorem PoutLength.pure {n : Nat} {q : Bytes} (h : q.length = n) : PoutLength n (some q) := by
  rintro _ ⟨⟩
  exact h

theorem PoutLength.bind {α : Type} {n : Nat} {load : Option α} {f : α → Option Bytes}
    (h : ∀ x, PoutLength n (f x)) : PoutLength n (load >>= f) := by
  intro q hq
  obtain ⟨x, -, hx⟩ := Option.bind_eq_some_iff.mp hq
  exact h x q hx

theorem PoutLength.map {α : Type} {n : Nat} {load : Option α} {f : α → Bytes}
    (h : ∀ x, (f x).length = n) : PoutLength n (load.map f) := by
  intro q hq
  obtain ⟨x, -, rfl⟩ := Option.map_eq_some_iff.mp hq
  exact h x

/-- The last response of an outcome has the length R41 gives the command `i`. -/
def AnswerFits (i : Instr) (o : Host.Outcome State Fault Refusal) : Prop :=
  ∀ t r, o = .next t → t.outbox.getLast? = some r →
    r.payload.length = if r.status = .ok then responseBytes i else 0

theorem raise_fits (i : Instr) (e : CoreError) (s : State) : AnswerFits i (.next (s.raise e)) := by
  rintro _ r ⟨⟩ hr
  rw [State.raise_outbox, List.getLast?_concat] at hr
  cases hr
  rfl

theorem respond_ok_fits {i : Instr} {p : Bytes} (s : State) (h : p.length = responseBytes i) :
    AnswerFits i (.next (s.respond .ok p)) := by
  rintro _ r ⟨⟩ hr
  rw [State.respond_outbox, List.getLast?_concat] at hr
  cases hr
  exact h

theorem checkPayload_fits {i : Instr} {s : State} {go : Host.Outcome State Fault Refusal}
    (h : AnswerFits i go) : AnswerFits i (checkPayload i s go) := by
  by_cases hp : s.pin.length = payloadBytes i
  · rw [checkPayload_right hp]; exact h
  · rw [checkPayload_wrong hp]; exact raise_fits i _ s

theorem checkSchedule_fits {i : Instr} {s : State} {go : Host.Outcome State Fault Refusal}
    (h : AnswerFits i go) : AnswerFits i (checkSchedule s go) := by
  by_cases hs : s.slen = 32
  · rw [checkSchedule_present hs]; exact h
  · rw [checkSchedule_absent hs]; exact raise_fits i _ s

theorem deliver_fits {i : Instr} {pout : Option Bytes} {s : State}
    (h : PoutLength (responseBytes i) pout) : AnswerFits i (deliver pout s) := by
  cases pout with
  | none => exact nofun
  | some p => exact respond_ok_fits s (h p rfl)

theorem unitCommand_fits {i : Instr} {work : Bytes → Option Bytes} {leave : State → State} {s : State}
    (h : ∀ p, PoutLength (responseBytes i) (work p)) : AnswerFits i (unitCommand i work leave s) :=
  checkPayload_fits (deliver_fits (h s.pin))

theorem execRotl_fits (a : BitVec 5) (s : State) : AnswerFits (.rotl a) (execRotl a s) := by
  unfold execRotl
  split
  · exact raise_fits _ _ s
  · exact unitCommand_fits fun _ => .bind fun _ => .pure (storeWord_nil_length _)

theorem execKsched_fits (s : State) : AnswerFits .ksched (execKsched s) := by
  unfold execKsched
  split
  · exact raise_fits _ _ s
  · exact respond_ok_fits _ rfl

/-- The answer to every command has the command's length, by the Words, Halves or Block it stores. -/
theorem exec_fits (i : Instr) (s : State) : AnswerFits i (exec i s) := by
  cases i with
  | add =>
    rw [exec, execAdd]
    exact unitCommand_fits fun _ => .bind fun _ => .bind fun _ => .pure (storeWord_nil_length _)
  | rotl a => exact execRotl_fits a s
  | xor =>
    rw [exec, execXor]
    exact unitCommand_fits fun _ => .bind fun _ => .bind fun _ => .pure (storeWord_nil_length _)
  | xor4 =>
    rw [exec, execXor4]
    exact unitCommand_fits fun _ => .bind fun _ => .bind fun _ => .pure (storeHalf_nil_length _)
  | arx =>
    rw [exec, execArx]
    exact unitCommand_fits fun _ => .bind fun _ => .pure (storeHalf_nil_length _)
  | phtp =>
    rw [exec, execPhtp]
    exact unitCommand_fits fun _ => .bind fun _ => .bind fun _ => .pure (storeTwoWords_nil_length _ _)
  | pht =>
    rw [exec, execPht]
    exact unitCommand_fits fun _ => .bind fun _ => .pure (storeHalf_nil_length _)
  | ksched => exact execKsched_fits s
  | rdrk g =>
    exact checkPayload_fits (checkSchedule_fits (respond_ok_fits s (storeTwoHalves_nil_length _ _)))
  | rdsl => exact checkPayload_fits (respond_ok_fits s (storeWord_nil_length _))
  | rdrc => exact checkPayload_fits (respond_ok_fits s (storeHalf_nil_length _))
  | rf =>
    rw [exec, execRf]
    exact unitCommand_fits fun _ =>
      .bind fun _ => .bind fun _ => .bind fun _ => .pure (storeHalf_nil_length _)
  | enc =>
    rw [exec, execEnc]
    exact checkPayload_fits (checkSchedule_fits (deliver_fits (.map fun _ => storeBlock_nil_length _)))
  | dec =>
    rw [exec, execDec]
    exact checkPayload_fits (checkSchedule_fits (deliver_fits (.map fun _ => storeBlock_nil_length _)))

/-- Settles O31. -/
theorem responseLengths : Obligations.ResponseLengths := by
  intro i s t r h hr
  exact exec_fits i s t r h (by rw [hr, List.getLast?_concat])

/-! ## A second KSCHED with the same key -/

@[simp] theorem State.finish_pin (s : State) (i : Instr) : (s.finish i).pin = s.pin := by cases i <;> rfl

@[simp] theorem State.finish_ksched_slen (s : State) : (s.finish .ksched).slen = 32 := rfl

@[simp] theorem State.finish_ksched_rk (s : State) :
    (s.finish .ksched).rk = deriveStore s.rc s.pin := rfl

theorem exec_ksched_derives {s : State} (h : s.pin.length = 32) :
    exec .ksched s = .next ((s.finish .ksched).respond .ok []) := by
  simp [exec, execKsched, deriveSchedule, State.finish, h]

theorem exec_ksched_rejects {s : State} (h : s.pin.length ≠ 32) :
    exec .ksched s = .next (s.raise .invalidKeyLength) := by
  simp [exec, execKsched, deriveSchedule, h]

/-- Settles O38: a key of 32 bytes derives the same schedule both times, since KSCHED leaves RC; any other
payload raises both times. -/
theorem kschedTwiceIsOnce : Obligations.KschedTwiceIsOnce := by
  intro s t u first second
  by_cases hk : s.pin.length = 32
  · rw [exec_ksched_derives hk] at first
    rw [exec_ksched_derives (s := { t with pin := s.pin }) hk] at second
    cases first
    cases second
    exact ⟨rfl, rfl⟩
  · rw [exec_ksched_rejects hk] at first
    rw [exec_ksched_rejects (s := { t with pin := s.pin }) hk] at second
    cases first
    cases second
    exact ⟨rfl, rfl⟩

/-! ## What an answer depends on -/

/-- Two states agree on all that a command may look at: RC, SLEN, RK and its payload (R47). -/
structure SameInputs (s u : State) : Prop where
  rc : s.rc = u.rc
  slen : s.slen = u.slen
  rk : s.rk = u.rk
  pin : s.pin = u.pin

/-- What can be seen of an outcome: its last response, RC, SLEN and RK. -/
def observe : Host.Outcome State Fault Refusal → Option (Option Response × Half × BitVec 6 × Store)
  | .next t => some (t.outbox.getLast?, t.rc, t.slen, t.rk)
  | .fault _ => none
  | .refused _ => none

theorem SameInputs.finish {s u : State} (h : SameInputs s u) (i : Instr) :
    SameInputs (s.finish i) (u.finish i) := by
  have hrc : (s.finish i).rc = (u.finish i).rc := by simp [h.rc]
  have hpin : (s.finish i).pin = (u.finish i).pin := by simp [h.pin]
  by_cases hk : i = .ksched
  · subst hk
    exact ⟨hrc, by simp, by simp [h.rc, h.pin], hpin⟩
  · obtain ⟨slen, rk, -⟩ := s.finish_schedule hk
    obtain ⟨slen', rk', -⟩ := u.finish_schedule hk
    exact ⟨hrc, by rw [slen, slen', h.slen], by rw [rk, rk', h.rk], hpin⟩

section
variable {s u : State} (h : SameInputs s u)
include h

theorem respond_observe (st : Status) (p : Bytes) :
    observe (.next (s.respond st p)) = observe (.next (u.respond st p)) := by
  simp [observe, h.rc, h.slen, h.rk]

theorem raise_observe (e : CoreError) : observe (.next (s.raise e)) = observe (.next (u.raise e)) :=
  respond_observe h (.error e) []

theorem checkPayload_observe (i : Instr) {go go' : Host.Outcome State Fault Refusal}
    (hgo : observe go = observe go') : observe (checkPayload i s go) = observe (checkPayload i u go') := by
  by_cases hp : u.pin.length = payloadBytes i
  · rwa [checkPayload_right hp, checkPayload_right (h.pin ▸ hp)]
  · rw [checkPayload_wrong hp, checkPayload_wrong (h.pin ▸ hp)]
    exact raise_observe h _

theorem checkSchedule_observe {go go' : Host.Outcome State Fault Refusal}
    (hgo : observe go = observe go') : observe (checkSchedule s go) = observe (checkSchedule u go') := by
  by_cases hs : u.slen = 32
  · rwa [checkSchedule_present hs, checkSchedule_present (h.slen.trans hs)]
  · rw [checkSchedule_absent hs, checkSchedule_absent (h.slen ▸ hs)]
    exact raise_observe h _

theorem deliver_observe (i : Instr) (pout : Option Bytes) :
    observe (deliver pout (s.finish i)) = observe (deliver pout (u.finish i)) := by
  cases pout with
  | none => rfl
  | some p => exact respond_observe (h.finish i) .ok p

theorem unitCommand_observe (i : Instr) (work : Bytes → Option Bytes) :
    observe (unitCommand i work (State.finish i) s) =
      observe (unitCommand i work (State.finish i) u) := by
  refine checkPayload_observe h i ?_
  rw [h.pin]
  exact deliver_observe h i _

theorem execRotl_observe (a : BitVec 5) : observe (execRotl a s) = observe (execRotl a u) := by
  unfold execRotl
  split
  · exact raise_observe h _
  · exact unitCommand_observe h (.rotl a) _

theorem exec_ksched_observe : observe (exec .ksched s) = observe (exec .ksched u) := by
  by_cases hk : u.pin.length = 32
  · rw [exec_ksched_derives hk, exec_ksched_derives (h.pin ▸ hk)]
    exact respond_observe (h.finish .ksched) .ok []
  · rw [exec_ksched_rejects hk, exec_ksched_rejects (h.pin ▸ hk)]
    exact raise_observe h _

/-- Noninterference of one command: no register but RC, SLEN and RK is seen in its outcome. -/
theorem exec_observe (i : Instr) : observe (exec i s) = observe (exec i u) := by
  cases i with
  | rotl a => exact execRotl_observe h a
  | ksched => exact exec_ksched_observe h
  | rdrk g =>
    refine checkPayload_observe h _ (checkSchedule_observe h ?_)
    rw [h.rk]
    exact respond_observe h .ok _
  | rdsl =>
    refine checkPayload_observe h _ ?_
    rw [h.slen]
    exact respond_observe h .ok _
  | rdrc =>
    refine checkPayload_observe h _ ?_
    rw [h.rc]
    exact respond_observe h .ok _
  | enc =>
    refine checkPayload_observe h _ (checkSchedule_observe h ?_)
    rw [h.pin, h.rk]
    exact deliver_observe h .enc _
  | dec =>
    refine checkPayload_observe h _ (checkSchedule_observe h ?_)
    rw [h.pin, h.rk]
    exact deliver_observe h .dec _
  | _ => unfold exec; exact unitCommand_observe h _ _

end

theorem step_observe {s u : State} {cw : BitVec 16} {payload : Bytes} {rest rest' : List HostEvent}
    (hs : s.inbox = .command cw payload :: rest) (hu : u.inbox = .command cw payload :: rest')
    (hrc : s.rc = u.rc) (hslen : s.slen = u.slen) (hrk : s.rk = u.rk) :
    observe (step s) = observe (step u) := by
  have begun : SameInputs (s.begin payload rest) (u.begin payload rest') := ⟨hrc, hslen, hrk, rfl⟩
  cases hd : decode cw with
  | error e =>
    rw [step_illegal hs hd, step_illegal hu hd]
    exact raise_observe begun _
  | ok i =>
    rw [step_legal hs hd, step_legal hu hd]
    exact exec_observe begun i

/-- Settles O37: the two steps cannot be told apart by their last response, RC, SLEN and RK. -/
theorem responseDependsOnlyOnScheduleState : Obligations.ResponseDependsOnlyOnScheduleState := by
  intro s u s' u' cw payload rest rest' r r' hs hu hrc hslen hrk hs' hu' hr hr'
  have seen := step_observe hs hu hrc hslen hrk
  simpa [hs', hu', observe, hr, hr'] using seen

end Sys2Proof.Machine
end

section
/-! SUPPORT. The command word (30_encoding.md): its three fields, decoding and encoding as each other's
inverses, the rows of the opcode map and the illegal words (R60 to R69), the one response of every command
(R61), and ENC and DEC as the functions `encrypt` and `decrypt` (R72). -/

namespace Sys2Proof.Machine

/-! ## The fields of a command word -/

section
variable (z : BitVec 7) (imm : BitVec 5) (op : BitVec 4)

@[simp] theorem opField_append : opField (z ++ imm ++ op) = op :=
  BitVec.extractLsb'_append_eq_right

@[simp] theorem immField_append : immField (z ++ imm ++ op) = imm :=
  (BitVec.extractLsb'_append_eq_of_le (by decide)).trans BitVec.extractLsb'_append_eq_right

@[simp] theorem zeroField_append : zeroField (z ++ imm ++ op) = z :=
  (BitVec.extractLsb'_append_eq_of_le (by decide)).trans BitVec.extractLsb'_append_eq_left

end

/-- A command word is known by its three fields (R60). -/
theorem fields_eq_iff {z : BitVec 7} {imm : BitVec 5} {op : BitVec 4} {cw : BitVec 16} :
    z ++ imm ++ op = cw ↔ zeroField cw = z ∧ immField cw = imm ∧ opField cw = op := by
  constructor
  · rintro rfl
    simp
  · rintro ⟨rfl, rfl, rfl⟩
    exact fields_append cw

theorem encode_eq_iff {i : Instr} {cw : BitVec 16} :
    encode i = cw ↔ zeroField cw = 0 ∧ immField cw = i.immediate ∧ opField cw = i.opcode :=
  fields_eq_iff

/-! ## Decoding and encoding -/

theorem opcodeRow_opcode (i : Instr) : opcodeRow i.opcode i.immediate = some i := by cases i <;> rfl

/-- The reserved opcodes are the ones with no row (R65). -/
theorem opcodeRow_eq_none_iff (op : BitVec 4) (imm : BitVec 5) :
    opcodeRow op imm = none ↔ op = 0x0 ∨ op = 0xF := by
  have every : ∀ (op : BitVec 4) (imm : BitVec 5), opcodeRow op imm = none ↔ op = 0x0 ∨ op = 0xF := by
    decide
  exact every op imm

/-- Only ROTL restricts its immediate (R68). -/
theorem wf_iff {i : Instr} : i.wf = true ↔ (i.opcode = 2 → i.immediate ≠ 0) := by
  cases i with
  | rotl a => simp [Instr.wf, Instr.opcode, Instr.immediate]
  | _ => simp [Instr.wf, Instr.opcode]

/-- Only ROTL and RDRK have an immediate (R67). -/
theorem immediate_eq_zero {i : Instr} (h2 : i.opcode ≠ 2) (h9 : i.opcode ≠ 9) : i.immediate = 0 := by
  cases i with
  | rotl a => exact absurd rfl h2
  | rdrk g => exact absurd rfl h9
  | _ => rfl

/-- A word decodes to a command exactly if it passes the tests of R64. -/
theorem decode_eq_ok_iff {cw : BitVec 16} {i : Instr} :
    decode cw = .ok i ↔ zeroField cw = 0 ∧ opcodeRow (opField cw) (immField cw) = some i ∧
      (opField cw ≠ 2 → opField cw ≠ 9 → immField cw = 0) ∧ (opField cw = 2 → immField cw ≠ 0) := by
  refine ⟨decode_ok, fun ⟨zero, row, unused, rotation⟩ => ?_⟩
  have passed : ¬ (opField cw ≠ 2 ∧ opField cw ≠ 9 ∧ immField cw ≠ 0) := fun ⟨h2, h9, h⟩ => h (unused h2 h9)
  have nonzero : ¬ (opField cw = 2 ∧ immField cw = 0) := fun ⟨h2, h⟩ => rotation h2 h
  simp only [decode, zero, row, passed, nonzero, ne_eq, not_true_eq_false, if_false]

theorem decode_encode {i : Instr} (wf : i.wf = true) : decode (encode i) = .ok i := by
  obtain ⟨zero, imm, op⟩ := encode_eq_iff.mp (Eq.refl (encode i))
  rw [decode_eq_ok_iff, zero, imm, op]
  exact ⟨rfl, opcodeRow_opcode i, immediate_eq_zero, wf_iff.mp wf⟩

theorem wf_of_decode {cw : BitVec 16} {i : Instr} (h : decode cw = .ok i) : i.wf = true := by
  obtain ⟨-, -, -, rotation⟩ := decode_ok h
  obtain ⟨-, imm, op⟩ := encode_eq_iff.mp (encode_of_decode h)
  rwa [imm, op, ← wf_iff] at rotation

/-- The legal words are the words of the well-formed commands, each of its own command. -/
theorem decode_iff_encode {cw : BitVec 16} {i : Instr} :
    decode cw = .ok i ↔ i.wf = true ∧ encode i = cw :=
  ⟨fun h => ⟨wf_of_decode h, encode_of_decode h⟩, fun ⟨wf, word⟩ => word ▸ decode_encode wf⟩

/-- Settles O1. -/
theorem decodeInvertsEncode : Obligations.DecodeInvertsEncode := fun _ => decode_encode

/-- Settles O2. -/
theorem encodeInvertsDecode : Obligations.EncodeInvertsDecode := fun _ _ => decode_iff_encode.mp

/-! ## The opcode map -/

theorem wordMatch_eq (i : Instr) : i.wordMatch = 0#7 ++ 0#5 ++ i.opcode := by
  cases i <;> simp [Instr.wordMatch, Instr.opcode]

/-- A command whose mask has every bit has one word, its match. -/
theorem encode_of_fullMask {i : Instr} (mask : i.wordMask = 0xFFFF) :
    i.wf = true ∧ encode i = i.wordMatch := by
  cases i with
  | rotl a => simp [Instr.wordMask] at mask
  | rdrk g => simp [Instr.wordMask] at mask
  | _ => exact ⟨rfl, rfl⟩

/-- A row of R62 whose command takes no immediate. -/
theorem decode_iff_fullMask {i : Instr} (mask : i.wordMask = 0xFFFF) (cw : BitVec 16) :
    decode cw = .ok i ↔ cw &&& 0xFFFF = i.wordMatch := by
  obtain ⟨wf, word⟩ := encode_of_fullMask mask
  have all : cw &&& 0xFFFF = cw := BitVec.and_allOnes
  rw [decode_iff_encode, word, all, eq_comm (a := cw)]
  exact and_iff_right wf

/-- The mask of ROTL and RDRK clears IMM5. -/
theorem and_immMask (cw : BitVec 16) :
    cw &&& 0xFE0F = zeroField cw ++ 0#5 ++ opField cw := by
  have mask : (0xFE0F : BitVec 16) = BitVec.allOnes 7 ++ 0#5 ++ BitVec.allOnes 4 := rfl
  conv_lhs => rw [← fields_append cw, mask, BitVec.and_append, BitVec.and_append, BitVec.and_allOnes,
    BitVec.and_zero, BitVec.and_allOnes]

/-- A row of R62 whose command takes an immediate. -/
theorem decode_iff_immMask (i : Instr) (cw : BitVec 16) :
    decode cw = .ok i ↔ cw &&& 0xFE0F = i.wordMatch ∧ i.immediate = immField cw ∧ i.wf = true := by
  rw [decode_iff_encode, encode_eq_iff, and_immMask, wordMatch_eq, fields_eq_iff]
  simp only [zeroField_append, immField_append, opField_append]
  constructor
  · rintro ⟨wf, zero, imm, op⟩
    exact ⟨⟨zero.symm, trivial, op.symm⟩, imm.symm, wf⟩
  · rintro ⟨⟨zero, -, op⟩, imm, wf⟩
    exact ⟨wf, zero.symm, imm.symm, op.symm⟩

/-! ## The legal words -/

theorem exists_error_iff {cw : BitVec 16} :
    (∃ e, decode cw = .error e) ↔ ¬ ∃ i, decode cw = .ok i := by
  cases decode cw <;> simp

/-- A word is legal exactly if its fields pass every test of R64. -/
theorem legal_iff {cw : BitVec 16} : (∃ i, decode cw = .ok i) ↔
    zeroField cw = 0 ∧ ¬ (opField cw = 0x0 ∨ opField cw = 0xF) ∧
      (opField cw ≠ 2 → opField cw ≠ 9 → immField cw = 0) ∧ (opField cw = 2 → immField cw ≠ 0) := by
  rw [← opcodeRow_eq_none_iff _ (immField cw), ← ne_eq, Option.ne_none_iff_exists']
  simp only [decode_eq_ok_iff, exists_and_left, exists_and_right]

/-- A word is illegal exactly if one of the tests of R64 fails. -/
theorem illegal_iff {cw : BitVec 16} : (∃ e, decode cw = .error e) ↔
    zeroField cw ≠ 0 ∨ (opField cw = 0x0 ∨ opField cw = 0xF) ∨
      (opField cw ≠ 2 ∧ opField cw ≠ 9 ∧ immField cw ≠ 0) ∨ (opField cw = 2 ∧ immField cw = 0) := by
  rw [exists_error_iff, legal_iff]
  tauto

/-- Every immediate value. -/
def immediates : List (BitVec 5) := (List.finRange 32).map BitVec.ofFin

theorem mem_immediates (a : BitVec 5) : a ∈ immediates :=
  List.mem_map.mpr ⟨a.toFin, List.mem_finRange _, rfl⟩

/-- The well-formed commands: 12 without an immediate, ROTL by 1 to 31, RDRK of 0 to 31. -/
def wellFormedCommands : List Instr :=
  [.add, .xor, .xor4, .arx, .phtp, .pht, .ksched, .rdsl, .rdrc, .rf, .enc, .dec] ++
    (immediates.filter (· ≠ 0)).map .rotl ++ immediates.map .rdrk

theorem mem_wellFormedCommands {i : Instr} : i ∈ wellFormedCommands ↔ i.wf = true := by
  cases i with
  | rotl a => simp [wellFormedCommands, mem_immediates, Instr.wf]
  | rdrk g => simp [wellFormedCommands, mem_immediates, Instr.wf]
  | _ => simp [wellFormedCommands, Instr.wf]

/-- The command words of R62. -/
def legalWords : List (BitVec 16) := wellFormedCommands.map encode

theorem mem_legalWords {cw : BitVec 16} : cw ∈ legalWords ↔ ∃ i, decode cw = .ok i := by
  simp only [legalWords, List.mem_map, mem_wellFormedCommands, decode_iff_encode]

/-- Two well-formed commands have different words, since each word decodes to its own command. -/
theorem encode_inj_of_wf {i j : Instr} (hi : i.wf = true) (hj : j.wf = true) (h : encode i = encode j) :
    i = j := by
  have same : Except.ok i = decode (encode j) := h ▸ (decode_encode hi).symm
  rw [decode_encode hj] at same
  exact Except.ok.inj same

theorem legalWords_nodup : legalWords.Nodup := by
  have commands : wellFormedCommands.Nodup := by decide
  exact commands.map_on fun i hi j hj =>
    encode_inj_of_wf (mem_wellFormedCommands.mp hi) (mem_wellFormedCommands.mp hj)

/-- Settles O3, each row by its mask, and the count by the list of all well-formed commands. -/
theorem opcodeMapOfR62 : Obligations.OpcodeMapOfR62 := by
  refine ⟨decode_iff_fullMask rfl, fun cw a => ?rotl, decode_iff_fullMask rfl, decode_iff_fullMask rfl,
    decode_iff_fullMask rfl, decode_iff_fullMask rfl, decode_iff_fullMask rfl, decode_iff_fullMask rfl,
    fun cw g => ?rdrk, decode_iff_fullMask rfl, decode_iff_fullMask rfl, decode_iff_fullMask rfl,
    decode_iff_fullMask rfl, decode_iff_fullMask rfl, fun cw reserved => ?reserved,
    legalWords, legalWords_nodup, rfl, fun _ => mem_legalWords⟩
  case rotl =>
    have nonzero : (Instr.rotl a).wf = true ↔ a ≠ 0 := bne_iff_ne
    rw [decode_iff_immMask, nonzero]
    rfl
  case rdrk =>
    have wf : (Instr.rdrk g).wf = true := rfl
    rw [decode_iff_immMask, and_iff_left wf]
    rfl
  case reserved => exact illegal_iff.mpr (.inr (.inl reserved))

/-- Settles O4. -/
theorem illegalWordsOfR64 : Obligations.IllegalWordsOfR64 := by
  refine ⟨fun cw => ⟨illegal_iff, fun i h => ?_⟩, ⟨.reservedOpcode, rfl⟩, ⟨.zeroFieldSet, rfl⟩, rfl,
    fun s cw payload rest e event illegal => (step_illegal event illegal).trans rfl⟩
  obtain ⟨-, imm, op⟩ := encode_eq_iff.mp (encode_of_decode h)
  exact ⟨op.symm, imm.symm⟩

/-- Settles O6. -/
theorem sampleWordsDecode : Obligations.SampleWordsDecode :=
  ⟨rfl, rfl, rfl, .unusedImmediate, rfl⟩

/-! ## One response per command -/

/-- `t` is `s` with one response more, empty if it is an error. -/
def RespondsOnce (s t : State) : Prop :=
  t.inbox = s.inbox ∧ ∃ r, t.outbox = s.outbox ++ [r] ∧ (r.st ≠ 0x00 → r.payload.length = 0)

theorem raise_respondsOnce (s : State) (e : CoreError) : RespondsOnce s (s.raise e) :=
  ⟨rfl, ⟨.error e, []⟩, rfl, fun _ => rfl⟩

theorem exec_respondsOnce {i : Instr} {s t : State} (h : exec i s = .next t) : RespondsOnce s t := by
  rcases exec_raises_or_finishes h with ⟨e, rfl⟩ | ⟨-, p, rfl⟩
  · exact raise_respondsOnce s e
  · exact ⟨s.finish_inbox i, ⟨.ok, p⟩, by simp, absurd rfl⟩

/-- Settles O24: an illegal word raises, and a legal one is run, which answers once. -/
theorem oneResponsePerCommand : Obligations.OneResponsePerCommand := by
  intro s cw payload rest event
  obtain ⟨t, ht, inbox, r, outbox, empty⟩ :
      ∃ t, step s = .next t ∧ RespondsOnce (s.begin payload rest) t := by
    cases hd : decode cw with
    | error e => exact ⟨_, step_illegal event hd, raise_respondsOnce _ _⟩
    | ok i =>
      obtain ⟨t, ht⟩ := exec_endsInNext i (s.begin payload rest)
      exact ⟨t, (step_legal event hd).trans ht, exec_respondsOnce ht⟩
  exact ⟨t, r, ht, inbox, outbox, empty⟩

/-! ## ENC and DEC as functions -/

/-- A response read as the result of a function: its payload, or its error. -/
def Response.result (r : Response) : Except CoreError Bytes :=
  match r.status with
  | .ok => .ok r.payload
  | .error e => .error e

theorem encrypt_wrong_length {block : Bytes} (h : block.length ≠ 32) (S : List RoundKeyGroup) :
    encrypt block S = .error .invalidBlockLength :=
  if_pos h

theorem encrypt_block {block : Bytes} {B : Block} {S : List RoundKeyGroup} (h : block.length = 32)
    (hS : S.length = 32) (hB : loadBlock 0 block = some B) :
    encrypt block S = .ok (storeBlock 0 (feistel B S) []) := by
  simp [encrypt, h, hS, hB]

/-- What ENC and DEC do, with the schedule `S` each gives to the driver. -/
theorem blockCommand_computes {i : Instr} {s : State} {S : List RoundKeyGroup} (present : s.slen = 32)
    (hS : S.length = 32) (asks : payloadBytes i = 32) (error : payloadError i = .invalidBlockLength) :
    ∃ t r, checkPayload i s (checkSchedule s
        (deliver ((loadBlock 0 s.pin).map fun B => storeBlock 0 (feistel B S) []) s.leaveFeistel)) = .next t ∧
      t.outbox = s.outbox ++ [r] ∧ encrypt s.pin S = r.result := by
  by_cases hp : s.pin.length = 32
  · obtain ⟨B, hB⟩ := loadBlock_exists hp.ge
    rw [checkPayload_right (hp.trans asks.symm), checkSchedule_present present, hB, encrypt_block hp hS hB]
    exact ⟨_, _, rfl, rfl, rfl⟩
  · rw [checkPayload_wrong (asks ▸ hp), error, encrypt_wrong_length hp]
    exact ⟨_, _, rfl, rfl, rfl⟩

/-- Settles O50: `decrypt` is `encrypt` on the reversed schedule, and DEC gives RK reversed to the driver. -/
theorem commandsComputeTheFunctions : Obligations.CommandsComputeTheFunctions := fun _ present =>
  ⟨blockCommand_computes present (by simp) rfl rfl, blockCommand_computes present (by simp) rfl rfl⟩

end Sys2Proof.Machine
end

section
/-! SUPPORT. Word arithmetic (40_word_arithmetic.md): rotation on its domain (R82) with its laws (R89), and
the commands ADD, ROTL, XOR and XOR4 (R81 to R87). -/

namespace Sys2Proof.Machine

/-! ## Rotation -/

/-- The two terms of R82 have no set bit in common: the left one has bits from `s` up, the right one below. -/
theorem shiftLeft_and_ushiftRight (x : Word) {s : Nat} (hs : s ≤ 32) : x <<< s &&& x >>> (32 - s) = 0#32 := by
  apply BitVec.eq_of_getLsbD_eq
  intro k hk
  by_cases low : k < s
  · simp [low]
  · have past : 32 ≤ 32 - s + k := by omega
    simp [BitVec.getLsbD_of_ge x _ past]

theorem rotl_eq_add (x : Word) {s : Nat} (hs : s ≤ 32) : rotl x s = x <<< s + x >>> (32 - s) :=
  (BitVec.add_eq_or_of_and_eq_zero _ _ (shiftLeft_and_ushiftRight x hs)).symm

theorem rotl_toNat_or (x : Word) (s : Nat) :
    (rotl x s).toNat = (x.toNat <<< s ||| x.toNat >>> (32 - s)) % 2 ^ 32 := by
  have right : x.toNat >>> (32 - s) < 2 ^ 32 := (x >>> (32 - s)).isLt
  rw [Nat.or_mod_two_pow, Nat.mod_eq_of_lt right]
  simp [rotl]

theorem rotl_toNat_add (x : Word) {s : Nat} (hs : s ≤ 32) :
    (rotl x s).toNat = x.toNat * 2 ^ s % 2 ^ 32 + x.toNat / 2 ^ (32 - s) := by
  rw [rotl_eq_add x hs, BitVec.toNat_add_of_and_eq_zero (shiftLeft_and_ushiftRight x hs)]
  simp [Nat.shiftLeft_eq, Nat.shiftRight_eq_div_pow]

theorem rotl_terms_disjoint (x : Word) {s : Nat} (hs : s ≤ 32) :
    (x.toNat * 2 ^ s % 2 ^ 32) &&& (x.toNat / 2 ^ (32 - s)) = 0 := by
  have disjoint := congrArg BitVec.toNat (shiftLeft_and_ushiftRight x hs)
  simpa [Nat.shiftLeft_eq, Nat.shiftRight_eq_div_pow] using disjoint

theorem rotl_eq_rotateLeft (x : Word) {s : Nat} (hs : s < 32) : rotl x s = x.rotateLeft s :=
  (BitVec.rotateLeft_eq_rotateLeftAux_of_lt hs).symm

/-- Every bit of a rotation, by the bit it comes from. -/
theorem getLsbD_rotl (x : Word) {s i : Nat} (hs : s < 32) (hi : i < 32) :
    (rotl x s).getLsbD i = x.getLsbD ((i + (32 - s)) % 32) := by
  rw [rotl_eq_rotateLeft x hs, BitVec.getLsbD_rotateLeft_of_le hs]
  by_cases wraps : i < s
  · have source : (i + (32 - s)) % 32 = 32 - s + i := by omega
    simp [wraps, source]
  · have source : (i + (32 - s)) % 32 = i - s := by omega
    simp [wraps, hi, source]

/-- Every bit of a Word, by the bit of the rotation it goes to. -/
theorem getLsbD_rotl_target (x : Word) {s k : Nat} (hs : s < 32) (hk : k < 32) :
    (rotl x s).getLsbD ((k + s) % 32) = x.getLsbD k := by
  have back : ((k + s) % 32 + (32 - s)) % 32 = k := by omega
  rw [getLsbD_rotl x hs (Nat.mod_lt _ (by decide)), back]

/-- Settles O40. -/
theorem rotationFunction : Obligations.RotationFunction := fun x s _ hs =>
  ⟨rotl_toNat_or x s, fun _ => getLsbD_rotl_target x hs, rotl_toNat_add x hs.le, rotl_terms_disjoint x hs.le⟩

theorem rotl_rotl (x : Word) {s u : Nat} (hs : s < 32) (hu : u < 32) :
    rotl (rotl x s) u = rotl x ((s + u) % 32) := by
  apply BitVec.eq_of_getLsbD_eq
  intro i hi
  have source : ((i + (32 - u)) % 32 + (32 - s)) % 32 = (i + (32 - (s + u) % 32)) % 32 := by omega
  rw [getLsbD_rotl _ hu hi, getLsbD_rotl x hs (Nat.mod_lt _ (by decide)),
    getLsbD_rotl x (Nat.mod_lt _ (by decide)) hi, source]

theorem rotl_zero (x : Word) : rotl x 0 = x := by
  have out : x >>> 32 = 0#32 := BitVec.ushiftRight_eq_zero le_rfl
  simp [rotl, out]

theorem rotl_rotl_cancel (x : Word) {s u : Nat} (hs : s < 32) (hu : u < 32) (full : s + u = 32) :
    rotl (rotl x s) u = x := by
  rw [rotl_rotl x hs hu, full]
  exact rotl_zero x

theorem rotl_xor (x y : Word) {s : Nat} (hs : s < 32) : rotl (x ^^^ y) s = rotl x s ^^^ rotl y s := by
  apply BitVec.eq_of_getLsbD_eq
  intro i hi
  simp only [BitVec.getLsbD_xor, getLsbD_rotl _ hs hi]

theorem rotl_bijective {s : Nat} (h0 : 0 < s) (hs : s < 32) : Function.Bijective fun x : Word => rotl x s :=
  Function.bijective_iff_has_inverse.mpr ⟨fun y => rotl y (32 - s),
    fun x => rotl_rotl_cancel x hs (by omega) (by omega),
    fun y => rotl_rotl_cancel y (by omega) hs (by omega)⟩

/-- Settles O41. -/
theorem rotationLaws : Obligations.RotationLaws := fun _ _ h0 hs _ hu =>
  ⟨fun x _ => rotl_rotl x hs hu, fun x => rotl_rotl_cancel x hs (by omega) (by omega),
    fun x y => rotl_xor x y hs, rotl_bijective h0 hs⟩

/-! ## What a command answers -/

/-- The length check of every well-formed command: the error of R41, and nothing else written. -/
theorem exec_wrongLength (i : Instr) {s : State} (wf : i.wf = true) (wrong : s.pin.length ≠ payloadBytes i) :
    exec i s = .next (Failed s (payloadError i)) := by
  obtain ⟨t, ht⟩ := exec_endsInNext i s
  rw [ht]
  cases exec_next ht with
  | illFormed ill => simp [wf] at ill
  | wrongLength => rfl
  | noSchedule right => exact absurd right wrong
  | done _ right => exact absurd right wrong

/-- On a payload given by its Words, as many as the command asks for, the answer is the Words computed. -/
theorem unitCommand_answers {i : Instr} {work : Bytes → Option Bytes} {leave : State → State} {s : State}
    {ws out : List Word} (hp : s.pin = bytesOf ws) (asks : 4 * ws.length = payloadBytes i)
    (hw : work (bytesOf ws) = some (bytesOf out)) :
    unitCommand i work leave s = .next (Answered (leave s) out) :=
  unitCommand_done (by rw [hp, bytesOf_length, asks]) (hp ▸ hw)

/-- A command that takes no immediate has the one word of its opcode (R64, R67). -/
theorem isOnlyWord_encode (i : Instr) (h2 : i.opcode ≠ 2) (h9 : i.opcode ≠ 9) : IsOnlyWord (encode i) i := by
  refine ⟨decode_encode (wf_iff.mpr fun op => absurd op h2), fun cw sameOp other => ?_⟩
  refine exists_error_iff.mpr fun ⟨j, legal⟩ => other ?_
  obtain ⟨-, -, opWord⟩ := encode_eq_iff.mp (Eq.refl (encode i))
  obtain ⟨-, -, op⟩ := encode_eq_iff.mp (encode_of_decode legal)
  have same : j.opcode = i.opcode := op.symm.trans (Eq.trans sameOp opWord)
  have imm : j.immediate = i.immediate :=
    (immediate_eq_zero (same ▸ h2) (same ▸ h9)).trans (immediate_eq_zero h2 h9).symm
  rw [← encode_of_decode legal, encode, imm, same, ← encode]

/-! ## ADD, ROTL, XOR and XOR4 -/

theorem loadTwoHalves (H G : Half) : loadHalf 0 (bytesOf (H.words ++ G.words)) = some H ∧
    loadHalf 4 (bytesOf (H.words ++ G.words)) = some G := by
  constructor
  · exact loadHalf_bytesOf [] G.words H 0 rfl
  · simpa using loadHalf_bytesOf H.words [] G 4 rfl

theorem exec_add_answers {s : State} {x y : Word} (hp : s.pin = bytesOf [x, y]) :
    exec .add s = .next (Answered s [add32 x y]) := by
  rw [exec, execAdd]
  exact unitCommand_answers hp rfl (by simp [loadWord_bytesOf])

theorem exec_xor_answers {s : State} {x y : Word} (hp : s.pin = bytesOf [x, y]) :
    exec .xor s = .next (Answered s [xor32 x y]) := by
  rw [exec, execXor]
  exact unitCommand_answers hp rfl (by simp [loadWord_bytesOf])

theorem exec_xor4_answers {s : State} {H G : Half} (hp : s.pin = bytesOf (H.words ++ G.words)) :
    exec .xor4 s = .next (Answered s (xor4 H G).words) := by
  obtain ⟨left, right⟩ := loadTwoHalves H G
  rw [exec, execXor4]
  exact unitCommand_answers hp rfl (by simp [left, right])

theorem exec_rotl_answers {s : State} {a : BitVec 5} {x : Word} (ha : a ≠ 0) (hp : s.pin = bytesOf [x]) :
    exec (.rotl a) s = .next (Answered s [rotl x a.toNat]) := by
  rw [exec, execRotl, if_neg ha]
  exact unitCommand_answers hp rfl (by simp [loadWord_bytesOf])

/-- Settles O10. -/
theorem addCommand : Obligations.AddCommand := by
  refine ⟨isOnlyWord_encode .add (by decide) (by decide), fun s => ⟨exec_wrongLength .add rfl, fun x y hp => ?_⟩⟩
  have sum : add32 x y = BitVec.ofNat 32 ((x.toNat + y.toNat) % 2 ^ 32) := by
    apply BitVec.eq_of_toNat_eq
    simp [add32]
  rw [exec_add_answers hp, sum]

/-- The word of ROTL s is 0x0002 with `s` in IMM5 (R60, R62). -/
theorem encode_rotl (a : BitVec 5) : encode (.rotl a) = BitVec.ofNat 16 (0x0002 + 16 * a.toNat) := by
  apply BitVec.eq_of_toNat_eq
  rw [encode, append_toNat, append_toNat, BitVec.toNat_ofNat]
  have zero : (0 : BitVec 7).toNat = 0 := rfl
  have op : (Instr.rotl a).opcode.toNat = 2 := rfl
  rw [zero, op, Instr.immediate]
  omega

/-- Settles O11. -/
theorem rotlCommand : Obligations.RotlCommand := by
  have wf {a : BitVec 5} (ha : a ≠ 0) : (Instr.rotl a).wf = true := bne_iff_ne.mpr ha
  refine ⟨fun a ha => ?word, fun cw op bad => illegal_iff.mpr ?illegal, fun s a ha =>
    ⟨exec_wrongLength (.rotl a) (wf ha), fun x hp =>
      ⟨_, exec_rotl_answers ha hp, fun _ => getLsbD_rotl_target x a.isLt⟩⟩⟩
  case word => rw [← encode_rotl, decode_encode (wf ha)]
  case illegal =>
    rcases bad with imm | zero
    · exact .inr (.inr (.inr ⟨op, imm⟩))
    · exact .inl zero

/-- Settles O12. -/
theorem xorCommand : Obligations.XorCommand := by
  refine ⟨isOnlyWord_encode .xor (by decide) (by decide), fun s =>
    ⟨exec_wrongLength .xor rfl, fun x y hp => ⟨_, exec_xor_answers hp, fun k _ => ?_⟩⟩⟩
  rw [xor32, BitVec.getLsbD_xor]
  exact bne_iff_ne

/-- Settles O13. -/
theorem xorFourCommand : Obligations.XorFourCommand :=
  ⟨isOnlyWord_encode .xor4 (by decide) (by decide), fun _ =>
    ⟨exec_wrongLength .xor4 rfl, fun _ _ hp => exec_xor4_answers hp⟩⟩

end Sys2Proof.Machine
end

section
/-! SUPPORT. The ARX mixer (41_arx_mixer.md): the eight lines of R100 as two rounds and a permutation, the
properties of R102, and the command ARX (R101). -/

namespace Sys2Proof.Machine

/-! ## The mixer as two rounds and a permutation -/

/-- Four lines of R100 in a row, with the rotation amounts `s` and `u`. -/
def arxRound (s u : Nat) (S : Half) : Half :=
  let a := add32 S.w0 S.w3
  let b := rotl (xor32 S.w1 a) s
  let c := add32 S.w2 b
  let d := rotl (xor32 S.w3 c) u
  ⟨a, b, c, d⟩

/-- `arxRound` undone, its last line first: rotate back and XOR, or subtract (R102 (c)). -/
def arxRoundInv (s u : Nat) (S : Half) : Half :=
  let d := xor32 (rotl S.w3 (32 - u)) S.w2
  let c := S.w2 - S.w1
  let b := xor32 (rotl S.w1 (32 - s)) S.w0
  let a := S.w0 - d
  ⟨a, b, c, d⟩

/-- The permutation of the output, `[s1, s2, s3, s0]` (R100). -/
def rotateWords (S : Half) : Half := ⟨S.w1, S.w2, S.w3, S.w0⟩

theorem arx_eq_rounds : arx = rotateWords ∘ arxRound 5 7 ∘ arxRound 13 17 := rfl

/-! ## The properties of R102 -/

theorem rotateWords_bijective : Function.Bijective rotateWords :=
  Function.bijective_iff_has_inverse.mpr ⟨fun S => ⟨S.w3, S.w0, S.w1, S.w2⟩, fun _ => rfl, fun _ => rfl⟩

theorem rotl_rotl_back (x : Word) {s : Nat} (h0 : 0 < s) (hs : s < 32) : rotl (rotl x s) (32 - s) = x :=
  rotl_rotl_cancel x hs (by omega) (by omega)

theorem rotl_back_rotl (x : Word) {s : Nat} (h0 : 0 < s) (hs : s < 32) : rotl (rotl x (32 - s)) s = x :=
  rotl_rotl_cancel x (by omega) hs (by omega)

section
variable {s u : Nat} (hs0 : 0 < s) (hs : s < 32) (hu0 : 0 < u) (hu : u < 32)
include hs0 hs hu0 hu

theorem arxRoundInv_arxRound : Function.LeftInverse (arxRoundInv s u) (arxRound s u) := fun S => by
  simp [arxRound, arxRoundInv, add32, xor32, rotl_rotl_back, hs0, hs, hu0, hu]

theorem arxRound_arxRoundInv : Function.RightInverse (arxRoundInv s u) (arxRound s u) := fun S => by
  simp [arxRound, arxRoundInv, add32, xor32, rotl_back_rotl, hs0, hs, hu0, hu]

theorem arxRound_bijective : Function.Bijective (arxRound s u) :=
  Function.bijective_iff_has_inverse.mpr
    ⟨arxRoundInv s u, arxRoundInv_arxRound hs0 hs hu0 hu, arxRound_arxRoundInv hs0 hs hu0 hu⟩

end

theorem arx_bijective : Function.Bijective arx := by
  have first : Function.Bijective (arxRound 13 17) :=
    arxRound_bijective (by decide) (by decide) (by decide) (by decide)
  have second : Function.Bijective (arxRound 5 7) :=
    arxRound_bijective (by decide) (by decide) (by decide) (by decide)
  exact arx_eq_rounds ▸ rotateWords_bijective.comp (second.comp first)

/-- Settles O42, the last part by the fixed vector of R102 (a). -/
theorem arxIsBijective : Obligations.ArxIsBijective :=
  ⟨arx_bijective, rfl, ⟨1, 0, 0, 0⟩, by decide⟩

/-! ## The command -/

theorem exec_arx_answers {s : State} {S : Half} (hp : s.pin = bytesOf S.words) :
    exec .arx s = .next (Answered s (arx S).words) := by
  have load : loadHalf 0 (bytesOf S.words) = some S := by simpa using loadHalf_bytesOf [] [] S 0 rfl
  rw [exec, execArx]
  exact unitCommand_answers hp rfl (by simp [load])

/-- Settles O14: the equations of R100 are the lines of `arx`, whose rotations are by less than 32. -/
theorem arxCommand : Obligations.ArxCommand := by
  refine ⟨isOnlyWord_encode .arx (by decide) (by decide), fun s => ⟨exec_wrongLength .arx rfl, ?_⟩⟩
  rintro a0 b0 c0 d0 _ _ _ _ _ _ _ _ hp rfl rfl rfl rfl rfl rfl rfl rfl
  simp (disch := decide) only [← rotl_eq_rotateLeft]
  exact exec_arx_answers (S := ⟨a0, b0, c0, d0⟩) hp

end Sys2Proof.Machine
end

section
/-! SUPPORT. The PHT mixer (42_pht_mixer.md): one iteration and its inverse (R114), the four iterations of
R112, and the commands PHTP and PHT (R111, R113). -/

namespace Sys2Proof.Machine

/-! ## The mixer as four iterations and a permutation -/

/-- `phtIteration` undone: the old `(a, b)` is the new `(c, d)`, and XOR with its `Pht2` gives back the old
`(c, d)` (R114). -/
def phtIterationInv (U : Half) : Half :=
  let (e, f) := pht2 U.w2 U.w3
  ⟨U.w2, U.w3, xor32 e U.w0, xor32 f U.w1⟩

/-- The permutation of the output, `[c, d, a, b]` (R112). -/
def swapPairs (U : Half) : Half := ⟨U.w2, U.w3, U.w0, U.w1⟩

theorem pht_eq_iterations : pht = swapPairs ∘ phtIteration^[4] := rfl

/-! ## The properties of R110 and R114 -/

theorem phtIterationInv_phtIteration : Function.LeftInverse phtIterationInv phtIteration := fun T => by
  simp [phtIteration, phtIterationInv, xor32]

theorem phtIteration_phtIterationInv : Function.RightInverse phtIterationInv phtIteration := fun U => by
  simp [phtIteration, phtIterationInv, xor32]

/-- An iteration is a bijection though `Pht2` is not: it XORs a function of `(a, b)`, which it keeps, onto
`(c, d)` (R114). -/
theorem phtIteration_bijective : Function.Bijective phtIteration :=
  Function.bijective_iff_has_inverse.mpr
    ⟨phtIterationInv, phtIterationInv_phtIteration, phtIteration_phtIterationInv⟩

theorem swapPairs_bijective : Function.Bijective swapPairs :=
  Function.Involutive.bijective fun _ => rfl

theorem pht_bijective : Function.Bijective pht :=
  pht_eq_iterations ▸ swapPairs_bijective.comp (phtIteration_bijective.iterate 4)

/-- The closed form of R110: the sum adds `y` once and the doubling adds it twice. -/
theorem pht2_eq (x y : Word) : pht2 x y = (x + y, x + 3 * y) := by
  have second : x + y + 2 * y = x + 3 * y := by bv_omega
  rw [pht2, add32, add32, double32, second]

/-- Adding 2^31 to both operands changes neither Word of `Pht2`: 2^31 + 2^31 and 2^31 + 3 * 2^31 wrap to 0. -/
theorem pht2_not_injective : ¬ Function.Injective fun xy : Word × Word => pht2 xy.1 xy.2 := by
  intro inj
  have same : pht2 0x80000000 0x80000000 = pht2 0 0 := by decide
  have equal : ((0x80000000, 0x80000000) : Word × Word) = (0, 0) := inj same
  exact absurd equal (by decide)

/-- Settles O43. -/
theorem phtIsBijective : Obligations.PhtIsBijective :=
  ⟨pht_bijective, by decide, pht2_eq, pht2_not_injective⟩

/-! ## The commands -/

theorem loadHalf_words (S : Half) : loadHalf 0 (bytesOf S.words) = some S := by
  simpa using loadHalf_bytesOf [] [] S 0 rfl

theorem exec_phtp_answers {s : State} {x y : Word} (hp : s.pin = bytesOf [x, y]) :
    exec .phtp s = .next (Answered s [(pht2 x y).1, (pht2 x y).2]) := by
  rw [exec, execPhtp]
  exact unitCommand_answers hp rfl (by simp [loadWord_bytesOf, storeTwoWords_nil, -storeWord_nil])

theorem exec_pht_answers {s : State} {T : Half} (hp : s.pin = bytesOf T.words) :
    exec .pht s = .next (Answered s.leavePht (pht T).words) := by
  rw [exec, execPht]
  exact unitCommand_answers hp rfl (by simp [loadHalf_words])

/-- Settles O15: both Words of the answer are fixed by their values as natural numbers. -/
theorem phtpCommand : Obligations.PhtpCommand := by
  refine ⟨isOnlyWord_encode .phtp (by decide) (by decide), fun s =>
    ⟨exec_wrongLength .phtp rfl, fun x y x' y' hp hx hy => ?_⟩⟩
  have first : x' = add32 x y := BitVec.eq_of_toNat_eq (by rw [hx, add32, BitVec.toNat_add])
  have second : y' = add32 x' (double32 y) := BitVec.eq_of_toNat_eq (by
    rw [hy, add32, BitVec.toNat_add, double32, BitVec.toNat_mul]; rfl)
  rw [exec_phtp_answers hp, second, first, pht2]

/-- A sequence of Halves that each iteration takes to the next holds, at `n`, the `n`-th iterate (R112). -/
theorem iterate_phtIteration_eq {T : Nat → Half} (next : ∀ n, T (n + 1) = phtIteration (T n)) (n : Nat) :
    phtIteration^[n] (T 0) = T n := by
  induction n with
  | zero => rfl
  | succ n ih => rw [Function.iterate_succ_apply', ih, next]

/-- Settles O16: the recurrence of R112 is `phtIteration`, and its fourth value swapped is `pht`. -/
theorem phtCommand : Obligations.PhtCommand := by
  refine ⟨isOnlyWord_encode .pht (by decide) (by decide), fun s =>
    ⟨exec_wrongLength .pht rfl, fun a b c d e f hp recurrence => ?_⟩⟩
  have next (n : Nat) : Half.mk (a (n + 1)) (b (n + 1)) (c (n + 1)) (d (n + 1)) =
      phtIteration ⟨a n, b n, c n, d n⟩ := by
    obtain ⟨he, hf, ha, hb, hc, hd⟩ := recurrence n
    rw [ha, hb, hc, hd, hf, he]; rfl
  have fourth : phtIteration^[4] ⟨a 0, b 0, c 0, d 0⟩ = ⟨a 4, b 4, c 4, d 4⟩ :=
    iterate_phtIteration_eq (T := fun n => ⟨a n, b n, c n, d n⟩) next 4
  have output : pht ⟨a 0, b 0, c 0, d 0⟩ = ⟨c 4, d 4, a 4, b 4⟩ := by
    rw [pht_eq_iterations, Function.comp_apply, fourth, swapPairs]
  exact ⟨_, exec_pht_answers (T := ⟨a 0, b 0, c 0, d 0⟩) hp, by rw [output]; rfl⟩

end Sys2Proof.Machine
end

section
/-! SUPPORT. The key schedule (43_key_schedule.md): the three phases and the grouping along any trace of
KeyStates (R120 to R125, R130), the check of the key (R121), and the commands KSCHED, RDRK, RDSL and RDRC
(R123, R127 to R129). -/

namespace Sys2Proof.Machine

/-! ## The phases of the schedule -/

/-- Absorb ends in the last KeyState of a trace that takes in one key Word at each step (R122). -/
theorem foldl_absorbWord_eq {rc : Half} {KS : Nat → Half} {ws : List Word}
    (next : ∀ j < ws.length, KS (j + 1) = absorbWord rc (KS j) (ws.getD j 0)) :
    ws.foldl (absorbWord rc) (KS 0) = KS ws.length := by
  induction ws generalizing KS with
  | nil => rfl
  | cons w ws ih =>
    have first : KS 1 = absorbWord rc (KS 0) w := next 0 (Nat.succ_pos _)
    rw [List.foldl_cons, ← first]
    exact ih (KS := fun j => KS (j + 1)) fun j hj => next (j + 1) (Nat.succ_lt_succ hj)

/-- Squeeze emits element 0 of each KeyState of a trace with four steps between (R124). -/
theorem squeeze_eq_map_range {rc : Half} {Q : Nat → Half} (next : ∀ r, Q (r + 1) = (kStep rc)^[4] (Q r))
    (count : Nat) : squeeze rc count (Q 0) = (List.range count).map fun r => (Q r).w0 := by
  induction count generalizing Q with
  | zero => rfl
  | succ count ih =>
    have later := ih (Q := fun r => Q (r + 1)) fun r => next (r + 1)
    rw [squeeze, ← next, later, List.range_succ_eq_map, List.map_cons, List.map_map]
    rfl

/-- Group `g` of the emitted Words `q`: Word `8g + 4h + w` is Word `w` of Half `h` (R125). -/
def groupAt (q : Nat → Word) (g : Nat) : RoundKeyGroup :=
  ⟨⟨q (8 * g), q (8 * g + 1), q (8 * g + 2), q (8 * g + 3)⟩,
    ⟨q (8 * g + 4), q (8 * g + 5), q (8 * g + 6), q (8 * g + 7)⟩⟩

theorem groupsOf_map_range (q : Nat → Word) (n : Nat) :
    groupsOf ((List.range (8 * n)).map q) = (List.range n).map (groupAt q) := by
  induction n generalizing q with
  | zero => rfl
  | succ n ih =>
    have eight : (List.range (8 * (n + 1))).map q =
        q 0 :: q 1 :: q 2 :: q 3 :: q 4 :: q 5 :: q 6 :: q 7 ::
          (List.range (8 * n)).map fun k => q (k + 8) := by
      simp [Nat.mul_add, List.range_succ_eq_map, Function.comp_def]
    rw [eight, groupsOf, ih, List.range_succ_eq_map, List.map_cons, List.map_map]
    rfl

theorem deriveStore_toList (rc : Half) (key : Bytes) :
    (deriveStore rc key).toList = groupsOf (squeezedWords rc key) := rfl

/-- A group of the store, read by its index or from the list of all groups. -/
theorem store_get_of_toList {S : Store} {g : Fin 32} {G : RoundKeyGroup} (h : S.toList[g.val]? = some G) :
    S.get g = G := by
  obtain ⟨_, rfl⟩ := List.getElem?_eq_some_iff.mp h
  rfl

/-- The schedule store along the trace of KeyStates that squeeze goes through. -/
theorem deriveStore_get {rc : Half} {key : Bytes} {Q : Nat → Half}
    (start : extend rc (absorb rc (wordsOf key)) = Q 0) (next : ∀ r, Q (r + 1) = (kStep rc)^[4] (Q r))
    (g : Fin 32) : (deriveStore rc key).get g = groupAt (fun r => (Q r).w0) g := by
  apply store_get_of_toList
  rw [deriveStore_toList, squeezedWords, start, squeeze_eq_map_range next, groupsOf_map_range _ 32]
  simp

/-! ## The schedule of a key -/

theorem deriveSchedule_eq_ok {key : Bytes} (h : key.length = 32) (rc : Half) :
    deriveSchedule rc key = .ok (deriveStore rc key) :=
  if_neg (not_not.mpr h)

theorem deriveSchedule_eq_error_iff {rc : Half} {key : Bytes} :
    deriveSchedule rc key = .error .invalidKeyLength ↔ key.length ≠ 32 := by
  by_cases h : key.length = 32
  · simp [deriveSchedule_eq_ok h, h]
  · simp [deriveSchedule, h]

/-- Settles O45: the constant-mixed step is `kStep`; the trace `KS` is that of absorb, and `Q` that of
squeeze from the end of extend on. -/
theorem scheduleOfAKey : Obligations.ScheduleOfAKey := by
  intro rc kw mix KS Q words hmix zero absorbed extended squeezed
  obtain rfl : mix = kStep rc := funext hmix
  have last : absorb rc kw = KS 8 := by
    have folded : kw.foldl (absorbWord rc) (KS 0) = KS kw.length := foldl_absorbWord_eq (words ▸ absorbed)
    rwa [zero, words] at folded
  have start : extend rc (absorb rc (wordsOf (bytesOf kw))) = Q 0 := by
    rw [wordsOf_bytesOf, last, extended]
    rfl
  exact ⟨_, deriveSchedule_eq_ok (by rw [bytesOf_length, words]) rc, deriveStore_get start squeezed⟩

/-- Settles O46. -/
theorem deriveScheduleChecksTheKey : Obligations.DeriveScheduleChecksTheKey := fun rc _ =>
  ⟨deriveSchedule_eq_error_iff.symm, fun h => ⟨_, deriveSchedule_eq_ok h rc, Vector.length_toList⟩⟩

/-- With RC zero the step fixes the zero Half (R132 (d)). -/
theorem kStep_zero : kStep ⟨0, 0, 0, 0⟩ ⟨0, 0, 0, 0⟩ = ⟨0, 0, 0, 0⟩ := rfl

/-- Settles O47, by O45 on the traces that stay at the zero Half, where every step of the zero key leaves
them. -/
theorem zeroConstantsZeroKeyZeroSchedule : Obligations.ZeroConstantsZeroKeyZeroSchedule := by
  have injected {j : Nat} (hj : j < 8) : (0 : Word) ^^^ (List.replicate 8 0).getD j 0 = 0 := by
    rw [List.getD_replicate 0 hj]
    rfl
  refine scheduleOfAKey ⟨0, 0, 0, 0⟩ (List.replicate 8 0) (kStep ⟨0, 0, 0, 0⟩) (fun _ => ⟨0, 0, 0, 0⟩)
    (fun _ => ⟨0, 0, 0, 0⟩) rfl (fun _ => rfl) rfl (fun j hj => ?absorb) ?extend fun _ => ?squeeze
  case absorb => simp only [injected hj, kStep_zero]
  case extend => simp only [kStep_zero]
  case squeeze => simp only [kStep_zero]

/-! ## The commands -/

/-- The schedule check of every command that needs a schedule: its error, and nothing else written (R173). -/
theorem exec_noSchedule (i : Instr) {s : State} (wf : i.wf = true) (needs : needsSchedule i = true)
    (right : s.pin.length = payloadBytes i) (absent : s.slen ≠ 32) :
    exec i s = .next (Failed s .invalidScheduleLength) := by
  obtain ⟨t, ht⟩ := exec_endsInNext i s
  rw [ht]
  cases exec_next ht with
  | illFormed ill => simp [wf] at ill
  | wrongLength _ wrong => exact absurd right wrong
  | noSchedule => rfl
  | done _ _ present => exact absurd (present needs) absent

theorem exec_rdrk_answers {s : State} {g : BitVec 5} (right : s.pin.length = 0) (present : s.slen = 32) :
    exec (.rdrk g) s = .next (Answered s ((s.rk.get g.toFin).k1.words ++ (s.rk.get g.toFin).k2.words)) := by
  rw [exec, execRdrk, checkPayload_right right, checkSchedule_present present, storeTwoHalves_nil]
  rfl

theorem exec_rdsl_answers {s : State} (right : s.pin.length = 0) :
    exec .rdsl s = .next (Answered s [BitVec.ofNat 32 s.slen.toNat]) := by
  rw [exec, execRdsl, checkPayload_right right, storeWord_nil, BitVec.ofNat_toNat]
  rfl

theorem exec_rdrc_answers {s : State} (right : s.pin.length = 0) :
    exec .rdrc s = .next (Answered s s.rc.words) := by
  rw [exec, execRdrc, checkPayload_right right, storeHalf_nil]
  rfl

/-- The word of a command is its opcode with its immediate in IMM5 (R60, R62). -/
theorem encode_eq_ofNat (i : Instr) :
    encode i = BitVec.ofNat 16 (i.opcode.toNat + 16 * i.immediate.toNat) := by
  have zero : (0 : BitVec 7).toNat = 0 := rfl
  apply BitVec.eq_of_toNat_eq
  rw [encode, append_toNat, append_toNat, BitVec.toNat_ofNat, zero]
  omega

/-- Settles O18. -/
theorem kschedCommand : Obligations.KschedCommand :=
  ⟨isOnlyWord_encode .ksched (by decide) (by decide), fun s =>
    ⟨exec_wrongLength .ksched rfl, fun h =>
      ⟨_, deriveStore s.rc s.pin, exec_ksched_derives h, deriveSchedule_eq_ok h s.rc, rfl⟩⟩⟩

/-- Settles O19. -/
theorem rdrkCommand : Obligations.RdrkCommand := by
  refine ⟨fun g => ?word, fun cw _ zero => illegal_iff.mpr (.inl zero), fun s g =>
    ⟨exec_wrongLength (.rdrk g) rfl, exec_noSchedule (.rdrk g) rfl rfl, fun G right present hG => ?group⟩⟩
  case word =>
    have word : encode (.rdrk g) = BitVec.ofNat 16 (0x0009 + 16 * g.toNat) := encode_eq_ofNat (.rdrk g)
    rw [← word, decode_encode rfl]
  case group => rw [exec_rdrk_answers right present, store_get_of_toList hG]

/-- Settles O20. -/
theorem rdslCommand : Obligations.RdslCommand := by
  refine ⟨isOnlyWord_encode .rdsl (by decide) (by decide), fun s =>
    ⟨exec_wrongLength .rdsl rfl, exec_rdsl_answers, fun right legal => ?_⟩⟩
  rw [exec_rdsl_answers right]
  rcases legal with absent | present
  · rw [absent]; exact .inl rfl
  · rw [present]; exact .inr rfl

/-- Settles O21; that no step changes RC is part of O35. -/
theorem rdrcCommand : Obligations.RdrcCommand := by
  refine ⟨isOnlyWord_encode .rdrc (by decide) (by decide), fun s =>
    ⟨exec_wrongLength .rdrc rfl, exec_rdrc_answers, fun t h => ?_⟩⟩
  obtain ⟨rc, -⟩ := onlyKschedAndResetWriteTheStore s t h
  exact rc

end Sys2Proof.Machine
end

section
/-! SUPPORT. The round function (44_round_function.md): its five stages as a composition, the properties of
R142, and the command RF (R141). -/

namespace Sys2Proof.Machine

/-! ## The properties of R142 -/

theorem xor4_self (H : Half) : xor4 H H = ⟨0, 0, 0, 0⟩ := by
  simp [xor4, xor32]

theorem xor4_xor4_cancel_right (H K : Half) : xor4 (xor4 H K) K = H := by
  simp [xor4, xor32]

theorem xor4_right_bijective (K : Half) : Function.Bijective fun H => xor4 H K :=
  Function.Involutive.bijective fun H => xor4_xor4_cancel_right H K

theorem roundF_eq_stages (K1 K2 : Half) :
    (fun L => roundF L K1 K2) = pht ∘ arx ∘ (fun T => xor4 T K2) ∘ arx ∘ fun L => xor4 L K1 := rfl

theorem roundF_zero : roundF ⟨0, 0, 0, 0⟩ ⟨0, 0, 0, 0⟩ ⟨0, 0, 0, 0⟩ = ⟨0, 0, 0, 0⟩ := by
  obtain ⟨-, arxZero, -⟩ := arxIsBijective
  obtain ⟨-, phtZero, -⟩ := phtIsBijective
  rw [roundF, xor4_self, arxZero, xor4_self, arxZero, phtZero]

theorem roundF_congr_xor4 {L L' K1 K1' : Half} (K2 : Half) (h : xor4 L K1 = xor4 L' K1') :
    roundF L K1 K2 = roundF L' K1' K2 := by
  rw [roundF, h, ← roundF]

/-- Neither mixer loses anything, and each XOR with a fixed key undoes itself (R142 (b)). -/
theorem roundF_bijective (K1 K2 : Half) : Function.Bijective fun L => roundF L K1 K2 := by
  have toSecondKey : Function.Bijective (arx ∘ fun L => xor4 L K1) :=
    arx_bijective.comp (xor4_right_bijective K1)
  have fromSecondKey : Function.Bijective (pht ∘ arx ∘ fun T => xor4 T K2) :=
    pht_bijective.comp (arx_bijective.comp (xor4_right_bijective K2))
  exact roundF_eq_stages K1 K2 ▸ fromSecondKey.comp toSecondKey

/-- Settles O44. -/
theorem roundFunctionProperties : Obligations.RoundFunctionProperties :=
  ⟨roundF_zero, fun _ _ _ _ K2 => roundF_congr_xor4 K2, roundF_bijective⟩

/-! ## The command -/

theorem loadThreeHalves (H G F : Half) :
    loadHalf 0 (bytesOf (H.words ++ G.words ++ F.words)) = some H ∧
      loadHalf 4 (bytesOf (H.words ++ G.words ++ F.words)) = some G ∧
      loadHalf 8 (bytesOf (H.words ++ G.words ++ F.words)) = some F := by
  refine ⟨?first, loadHalf_bytesOf H.words F.words G 4 rfl, ?third⟩
  case first => simpa using loadHalf_bytesOf [] (G.words ++ F.words) H 0 rfl
  case third => simpa using loadHalf_bytesOf (H.words ++ G.words) [] F 8 rfl

theorem exec_rf_answers {s : State} {L K1 K2 : Half}
    (hp : s.pin = bytesOf (L.words ++ K1.words ++ K2.words)) :
    exec .rf s = .next (Answered s.leaveRound (roundF L K1 K2).words) := by
  obtain ⟨first, second, third⟩ := loadThreeHalves L K1 K2
  rw [exec, execRf]
  exact unitCommand_answers hp rfl (by simp only [first, second, third, storeHalf_nil]; rfl)

/-- Settles O17: no step of it asks what SLEN or RK hold, since RF takes its keys from the payload. -/
theorem rfCommand : Obligations.RfCommand :=
  ⟨isOnlyWord_encode .rf (by decide) (by decide), fun _ =>
    ⟨exec_wrongLength .rf rfl, fun _ _ _ hp => ⟨_, exec_rf_answers hp, rfl⟩⟩⟩

end Sys2Proof.Machine
end

section
/-! SUPPORT. The Feistel driver (45_feistel_driver.md): the rounds along any trace of Left and Right (R150), one
round undone and with it the round trip (R155), the properties of R156, the functions of R151 and R152, and the
commands ENC and DEC (R153, R154). -/

namespace Sys2Proof.Machine

/-! ## The driver as rounds and a swap -/

/-- Left and Right exchanged, as in the output of the driver: `concat(Right, Left)` (R150). -/
def swapHalves (B : Block) : Block := ⟨B.hi, B.lo⟩

theorem feistel_eq_swapHalves (B : Block) (S : List RoundKeyGroup) :
    feistel B S = swapHalves (S.foldl feistelRound B) := rfl

/-- The rounds end in the last Left and Right of a trace that goes by the recurrence of R150. -/
theorem foldl_feistelRound_eq {S : List RoundKeyGroup} {L R : Nat → Half}
    (next : ∀ i G, S[i]? = some G → L (i + 1) = xor4 (R i) (roundF (L i) G.k1 G.k2) ∧ R (i + 1) = L i) :
    S.foldl feistelRound ⟨L 0, R 0⟩ = ⟨L S.length, R S.length⟩ := by
  induction S generalizing L R with
  | nil => rfl
  | cons G S ih =>
    obtain ⟨left, right⟩ := next 0 G rfl
    have first : feistelRound ⟨L 0, R 0⟩ G = ⟨L 1, R 1⟩ := by rw [left, right, feistelRound]
    rw [List.foldl_cons, first]
    exact ih (L := fun i => L (i + 1)) (R := fun i => R (i + 1)) fun i => next (i + 1)

/-- Settles O48. -/
theorem feistelRecurrence : Obligations.FeistelRecurrence := by
  intro B S L R rounds left right next
  have start : B = ⟨L 0, R 0⟩ := by rw [left, right]
  have driver : feistel B S = ⟨R 32, L 32⟩ := by
    rw [feistel_eq_swapHalves, start, foldl_feistelRound_eq next, rounds, swapHalves]
  obtain ⟨-, last⟩ := next 31 S[31] (List.getElem?_eq_getElem (by omega))
  exact ⟨driver, last ▸ driver⟩

/-! ## The round trip -/

/-- A round on the exchanged output of the same round undoes it: the two values of `F` cancel (R155). -/
theorem feistelRound_swapHalves_feistelRound (B : Block) (G : RoundKeyGroup) :
    feistelRound (swapHalves (feistelRound B G)) G = swapHalves B := by
  simp only [feistelRound, swapHalves, xor4_xor4_cancel_right]

/-- The rounds in reversed order undo the rounds, the last of them first. -/
theorem foldl_reverse_swapHalves_foldl (B : Block) (S : List RoundKeyGroup) :
    S.reverse.foldl feistelRound (swapHalves (S.foldl feistelRound B)) = swapHalves B := by
  induction S generalizing B with
  | nil => rfl
  | cons G S ih =>
    rw [List.foldl_cons, List.reverse_cons, List.foldl_append, ih]
    exact feistelRound_swapHalves_feistelRound B G

theorem feistel_feistel_reverse (B : Block) (S : List RoundKeyGroup) : feistel (feistel B S) S.reverse = B := by
  rw [feistel_eq_swapHalves, feistel_eq_swapHalves, foldl_reverse_swapHalves_foldl]
  rfl

theorem feistel_reverse_feistel (B : Block) (S : List RoundKeyGroup) : feistel (feistel B S.reverse) S = B := by
  simpa using feistel_feistel_reverse B S.reverse

/-- Settles O51. -/
theorem feistelRoundTrip : Obligations.FeistelRoundTrip := fun B S =>
  ⟨feistel_feistel_reverse B S, feistel_reverse_feistel B S⟩

/-! ## The properties of R156 -/

theorem feistel_bijective (S : List RoundKeyGroup) : Function.Bijective fun B => feistel B S :=
  Function.bijective_iff_has_inverse.mpr ⟨fun C => feistel C S.reverse,
    fun B => feistel_feistel_reverse B S, fun C => feistel_reverse_feistel C S⟩

theorem feistelRound_zero :
    feistelRound ⟨⟨0, 0, 0, 0⟩, ⟨0, 0, 0, 0⟩⟩ ⟨⟨0, 0, 0, 0⟩, ⟨0, 0, 0, 0⟩⟩ = ⟨⟨0, 0, 0, 0⟩, ⟨0, 0, 0, 0⟩⟩ := by
  rw [feistelRound, roundF_zero, xor4_self]

theorem feistel_zero (n : Nat) :
    feistel ⟨⟨0, 0, 0, 0⟩, ⟨0, 0, 0, 0⟩⟩ (List.replicate n ⟨⟨0, 0, 0, 0⟩, ⟨0, 0, 0, 0⟩⟩) =
      ⟨⟨0, 0, 0, 0⟩, ⟨0, 0, 0, 0⟩⟩ := by
  induction n with
  | zero => rfl
  | succ n ih =>
    rw [feistel_eq_swapHalves] at ih ⊢
    rw [List.replicate_succ, List.foldl_cons, feistelRound_zero, ih]

/-- Settles O53: a list of zero groups is its own reverse, so that the round trip makes the driver an
involution on it. -/
theorem encryptionProperties : Obligations.EncryptionProperties := by
  refine ⟨fun B S zeros => ?_, feistel_bijective⟩
  obtain ⟨n, rfl⟩ : ∃ n, S = List.replicate n ⟨⟨0, 0, 0, 0⟩, ⟨0, 0, 0, 0⟩⟩ :=
    ⟨S.length, List.eq_replicate_of_mem zeros⟩
  refine ⟨List.reverse_replicate, ?_, feistel_zero n⟩
  have undone := feistel_feistel_reverse B (List.replicate n ⟨⟨0, 0, 0, 0⟩, ⟨0, 0, 0, 0⟩⟩)
  rwa [List.reverse_replicate] at undone

/-! ## The commands -/

/-- What ENC and DEC answer to a Block, with the schedule `S` each gives to the driver. -/
theorem blockCommand_answers {i : Instr} {s : State} {S : List RoundKeyGroup} {B : Block}
    (hp : s.pin = bytesOf B.words) (present : s.slen = 32) (asks : payloadBytes i = 32) :
    checkPayload i s (checkSchedule s
        (deliver ((loadBlock 0 s.pin).map fun B => storeBlock 0 (feistel B S) []) s.leaveFeistel)) =
      .next (Answered s.leaveFeistel (feistel B S).words) := by
  have right : s.pin.length = payloadBytes i := by rw [hp, bytesOf_length, asks]; rfl
  rw [checkPayload_right right, checkSchedule_present present, hp, loadBlock_bytesOf, Option.map_some,
    storeBlock_nil]
  rfl

theorem exec_enc_answers {s : State} {B : Block} (hp : s.pin = bytesOf B.words) (present : s.slen = 32) :
    exec .enc s = .next (Answered s.leaveFeistel (feistel B s.rk.toList).words) :=
  blockCommand_answers hp present rfl

theorem exec_dec_answers {s : State} {B : Block} (hp : s.pin = bytesOf B.words) (present : s.slen = 32) :
    exec .dec s = .next (Answered s.leaveFeistel (feistel B s.rk.toList.reverse).words) :=
  blockCommand_answers hp present rfl

/-- Settles O22. -/
theorem encCommand : Obligations.EncCommand :=
  ⟨isOnlyWord_encode .enc (by decide) (by decide), fun _ =>
    ⟨exec_wrongLength .enc rfl, exec_noSchedule .enc rfl rfl, fun _ hp present =>
      ⟨_, exec_enc_answers hp present, rfl⟩⟩⟩

/-- Settles O23. -/
theorem decCommand : Obligations.DecCommand :=
  ⟨isOnlyWord_encode .dec (by decide) (by decide), fun _ =>
    ⟨exec_wrongLength .dec rfl, exec_noSchedule .dec rfl rfl, fun _ hp present =>
      ⟨_, exec_dec_answers hp present, rfl⟩⟩⟩

/-- Every byte string of 32 bytes is the payload of a Block. -/
theorem exists_block {p : Bytes} (h : p.length = 32) : ∃ B : Block, p = bytesOf B.words := by
  obtain ⟨ws, eight, rfl⟩ := exists_words 8 p h
  match ws, eight with
  | [a, b, c, d, e, f, g, w], _ => exact ⟨⟨⟨a, b, c, d⟩, ⟨e, f, g, w⟩⟩, rfl⟩

/-- DEC of what the driver makes of a Block under RK gives the Block back. -/
theorem exec_dec_undoes {s : State} {B : Block} (hp : s.pin = bytesOf (feistel B s.rk.toList).words)
    (present : s.slen = 32) : exec .dec s = .next (Answered s.leaveFeistel B.words) := by
  rw [exec_dec_answers hp present, feistel_feistel_reverse]

/-- Settles O52: KSCHED leaves some schedule present, and ENC leaves that schedule as it is, so that DEC runs
it in reverse. -/
theorem decryptionUndoesEncryption : Obligations.DecryptionUndoesEncryption := by
  intro s key block hkey hblock
  obtain ⟨B, rfl⟩ := exists_block hblock
  obtain ⟨t, derived, answer, present⟩ : ∃ t, exec .ksched { s with pin := key } = .next t ∧
      t.outbox = s.outbox ++ [⟨.ok, []⟩] ∧ t.slen = 32 := ⟨_, exec_ksched_derives hkey, rfl, rfl⟩
  exact ⟨t, _, _, _, derived, answer, exec_enc_answers rfl present, rfl, exec_dec_undoes rfl present, rfl⟩

/-! ## The functions -/

theorem encrypt_wrong_schedule {block : Bytes} {S : List RoundKeyGroup} (h : block.length = 32)
    (hS : S.length ≠ 32) : encrypt block S = .error .invalidScheduleLength := by
  simp [encrypt, h, hS]

theorem encrypt_bytesOf (B : Block) {S : List RoundKeyGroup} (hS : S.length = 32) :
    encrypt (bytesOf B.words) S = .ok (bytesOf (feistel B S).words) := by
  rw [encrypt_block (bytesOf_length _) hS (loadBlock_bytesOf B), storeBlock_nil]

theorem decrypt_eq_encrypt_reverse (block : Bytes) (S : List RoundKeyGroup) :
    decrypt block S = encrypt block S.reverse := rfl

/-- Settles O49: `decrypt` is `encrypt` on the reversed schedule, which has the same length. -/
theorem encryptAndDecryptFunctions : Obligations.EncryptAndDecryptFunctions := by
  intro block S
  have sameLength : S.reverse.length = S.length := List.length_reverse
  rw [decrypt_eq_encrypt_reverse]
  refine ⟨fun wrong => ⟨encrypt_wrong_length wrong S, encrypt_wrong_length wrong S.reverse⟩,
    fun right wrong => ⟨encrypt_wrong_schedule right wrong, encrypt_wrong_schedule right (sameLength ▸ wrong)⟩,
    ?driver⟩
  case driver =>
    rintro B rfl hS
    exact ⟨encrypt_bytesOf B hS, encrypt_bytesOf B (sameLength.trans hS)⟩

end Sys2Proof.Machine
end

section
/-! SUPPORT. The errors (60_exceptions.md): the one status of a command, by the order of its checks (R176), and
from it who raises which error (R171 to R174, R178, R183), and that an error changes nothing (R175). -/

namespace Sys2Proof.Machine

/-! ## The status of a command -/

/-- The status a command answers with: the first check that fails, in the order of R176, or OK. -/
def commandStatus (i : Instr) (s : State) : Status :=
  if i.wf = false then .error .illegalCommand
  else if s.pin.length ≠ payloadBytes i then .error (payloadError i)
  else if needsSchedule i = true ∧ s.slen ≠ 32 then .error .invalidScheduleLength
  else .ok

theorem wf_of_needsSchedule {i : Instr} (needs : needsSchedule i = true) : i.wf = true := by
  cases i with
  | rotl a => cases needs
  | _ => rfl

/-- Every way a command can end answers with its status. -/
theorem CommandEnds.answers_status {i : Instr} {s t : State} (h : CommandEnds i s t) :
    ∃ p, t.outbox = s.outbox ++ [⟨commandStatus i s, p⟩] := by
  cases h with
  | illFormed ill => exact ⟨[], by simp [commandStatus, ill]⟩
  | wrongLength wf wrong => exact ⟨[], by simp [commandStatus, wf, wrong]⟩
  | noSchedule right needs absent =>
    exact ⟨[], by simpa [commandStatus, wf_of_needsSchedule needs, right, needs] using absent⟩
  | done wf right present p => exact ⟨p, by simpa [commandStatus, wf, right] using present⟩

theorem exec_status {i : Instr} {s t : State} {r : Response} (h : exec i s = .next t)
    (answer : t.outbox = s.outbox ++ [r]) : r.status = commandStatus i s := by
  obtain ⟨p, hp⟩ := (exec_next h).answers_status
  obtain rfl : r = ⟨commandStatus i s, p⟩ := by simpa [hp] using answer.symm
  rfl

/-- The status of a command word: that of its command, or IllegalCommand (R176 (1)). -/
def wordStatus (cw : BitVec 16) (s : State) : Status :=
  match decode cw with
  | .error _ => .error .illegalCommand
  | .ok i => commandStatus i s

theorem wordStatus_illegal {cw : BitVec 16} {e : IllegalWord} (hd : decode cw = .error e) (s : State) :
    wordStatus cw s = .error .illegalCommand := by
  simp [wordStatus, hd]

theorem wordStatus_legal {cw : BitVec 16} {i : Instr} (hd : decode cw = .ok i) (s : State) :
    wordStatus cw s = commandStatus i s := by
  simp [wordStatus, hd]

theorem step_answers_status {s : State} {cw : BitVec 16} {payload : Bytes} {rest : List HostEvent}
    (event : s.inbox = .command cw payload :: rest) :
    ∃ t r, step s = .next t ∧ t.outbox = s.outbox ++ [r] ∧
      r.status = wordStatus cw (s.begin payload rest) := by
  cases hd : decode cw with
  | error e => exact ⟨_, _, step_illegal event hd, rfl, (wordStatus_illegal hd _).symm⟩
  | ok i =>
    obtain ⟨t, ht⟩ := exec_endsInNext i (s.begin payload rest)
    obtain ⟨p, answer⟩ := (exec_next ht).answers_status
    exact ⟨t, _, (step_legal event hd).trans ht, answer, (wordStatus_legal hd _).symm⟩

/-! ## The order of the checks -/

/-- The payload-length errors of R176 (2) are those of R41. -/
theorem payloadError_eq (i : Instr) : payloadError i =
    if i = .ksched then .invalidKeyLength
    else if i = .enc ∨ i = .dec then .invalidBlockLength else .invalidOperandLength := by
  cases i <;> rfl

/-- Settles O25; the check of a command's form never fails, since a decoded command is well formed. -/
theorem orderOfChecks : Obligations.OrderOfChecks := by
  intro s cw payload rest event
  obtain ⟨t, r, ht, answer, status⟩ := step_answers_status event
  refine ⟨t, r, ht, answer, status.trans ?_⟩
  cases hd : decode cw with
  | error e => exact wordStatus_illegal hd _
  | ok i =>
    have wf : ¬ i.wf = false := by simp [wf_of_decode hd]
    rw [wordStatus_legal hd, commandStatus, if_neg wf, payloadError_eq]
    rfl

/-! ## When a command has which error -/

section
variable {i : Instr} {s : State}

theorem commandStatus_eq_illegalCommand_iff :
    commandStatus i s = .error .illegalCommand ↔ i.wf = false := by
  have other : payloadError i ≠ .illegalCommand := by cases i <;> nofun
  unfold commandStatus
  split_ifs with ill
  · simp [ill]
  · simp [ill, other]
  · simp [ill]
  · simp [ill]

/-- The payload check gives every error but those of the other two checks. -/
theorem commandStatus_eq_lengthError_iff (e : CoreError) (word : e ≠ .illegalCommand)
    (schedule : e ≠ .invalidScheduleLength) : commandStatus i s = .error e ↔
      i.wf = true ∧ s.pin.length ≠ payloadBytes i ∧ payloadError i = e := by
  unfold commandStatus
  split_ifs with ill wrong absent
  · simp [ill, word.symm]
  · simp [ill, wrong]
  · simp [wrong, schedule.symm]
  · simp [wrong]

theorem commandStatus_eq_invalidScheduleLength_iff : commandStatus i s = .error .invalidScheduleLength ↔
    (needsSchedule i = true ∧ s.pin.length = payloadBytes i) ∧ s.slen ≠ 32 := by
  have other : payloadError i ≠ .invalidScheduleLength := by cases i <;> nofun
  have needless : i.wf = false → ¬ needsSchedule i = true := fun ill needs => by
    simp [wf_of_needsSchedule needs] at ill
  unfold commandStatus
  split_ifs with ill wrong absent
  · simp [needless ill]
  · simp [other, wrong]
  · simpa [not_not.mp wrong] using absent
  · simpa [not_not.mp wrong] using absent

end

/-! ## IllegalCommand -/

theorem wordStatus_eq_illegalCommand_iff {cw : BitVec 16} {s : State} :
    wordStatus cw s = .error .illegalCommand ↔ ∃ e, decode cw = .error e := by
  cases hd : decode cw with
  | error e => simp [wordStatus_illegal hd]
  | ok i => simp [wordStatus_legal hd, commandStatus_eq_illegalCommand_iff, wf_of_decode hd]

/-- Settles O5, by the tests of R64. -/
theorem illegalCommandExactly : Obligations.IllegalCommandExactly := by
  intro s cw payload rest event
  obtain ⟨t, r, ht, answer, status⟩ := step_answers_status event
  have unused : immField cw ≠ 0 ∧ opField cw ≠ 2 ∧ opField cw ≠ 9 ↔
      opField cw ≠ 2 ∧ opField cw ≠ 9 ∧ immField cw ≠ 0 := by tauto
  refine ⟨t, r, ht, answer, ?_⟩
  rw [status, wordStatus_eq_illegalCommand_iff, illegal_iff, ← unused]
  rfl

/-! ## An error changes nothing -/

section
variable {s t : State} {r : Response} {e : CoreError}

theorem raise_error {e' : CoreError} (answer : (s.raise e').outbox = s.outbox ++ [r])
    (error : r.status = .error e) : r = ⟨.error e, []⟩ ∧ s.raise e' = Failed s e := by
  obtain rfl : r = ⟨.error e', []⟩ := by simpa using answer.symm
  cases error
  exact ⟨rfl, rfl⟩

/-- A command that answers with an error has raised it, and written nothing else. -/
theorem exec_error {i : Instr} (h : exec i s = .next t) (answer : t.outbox = s.outbox ++ [r])
    (error : r.status = .error e) : r = ⟨.error e, []⟩ ∧ t = Failed s e := by
  rcases exec_raises_or_finishes h with ⟨e', rfl⟩ | ⟨-, p, rfl⟩
  · exact raise_error answer error
  · obtain rfl : r = ⟨.ok, p⟩ := by simpa using answer.symm
    cases error

end

/-- Settles O29: the error is that of the illegal word or of the command. -/
theorem errorChangesNothing : Obligations.ErrorChangesNothing := by
  intro s t cw payload rest r e event h answer error
  have begun : Failed (s.begin payload rest) e = Failed { s with inbox := rest } e := rfl
  rw [← begun]
  cases hd : decode cw with
  | error why =>
    rw [step_illegal event hd] at h
    cases h
    exact raise_error answer error
  | ok i => exact exec_error ((step_legal event hd).symm.trans h) answer error

/-! ## The errors of the payload and schedule checks -/

section
variable {i : Instr} {n : Nat}

theorem wrongLength_key_iff : i.wf = true ∧ n ≠ payloadBytes i ∧ payloadError i = .invalidKeyLength ↔
    i = .ksched ∧ n ≠ 32 := by
  cases i <;> simp [Instr.wf, payloadBytes, payloadError]

theorem wrongLength_block_iff : i.wf = true ∧ n ≠ payloadBytes i ∧ payloadError i = .invalidBlockLength ↔
    (i = .enc ∨ i = .dec) ∧ n ≠ 32 := by
  cases i <;> simp [Instr.wf, payloadBytes, payloadError]

theorem needsSchedule_and_rightLength_iff : needsSchedule i = true ∧ n = payloadBytes i ↔
    ((i = .enc ∨ i = .dec) ∧ n = 32) ∨ ((∃ g, i = .rdrk g) ∧ n = 0) := by
  cases i <;> simp [needsSchedule, payloadBytes]

theorem payloadError_eq_invalidOperandLength_iff :
    payloadError i = .invalidOperandLength ↔ i ≠ .ksched ∧ i ≠ .enc ∧ i ≠ .dec := by
  cases i <;> simp [payloadError]

end

/-- Settles O26. -/
theorem keyAndBlockLengthErrors : Obligations.KeyAndBlockLengthErrors := by
  intro i s t r h answer
  refine ⟨?key, ?block, fun error => (exec_error h answer error).2⟩
  case key =>
    rw [exec_status h answer, commandStatus_eq_lengthError_iff _ (by decide) (by decide),
      wrongLength_key_iff]
  case block =>
    rw [exec_status h answer, commandStatus_eq_lengthError_iff _ (by decide) (by decide),
      wrongLength_block_iff]

/-- Settles O27, by the lengths and errors of R41. -/
theorem operandLengthError : Obligations.OperandLengthError := by
  intro i s t r wf h answer
  rw [exec_status h answer, commandStatus_eq_lengthError_iff _ (by decide) (by decide), and_iff_right wf]
  cases i <;> simp [payloadBytes, payloadError]

/-- Settles O28. -/
theorem scheduleLengthError : Obligations.ScheduleLengthError := by
  intro i s t r h answer
  rw [exec_status h answer, commandStatus_eq_invalidScheduleLength_iff, needsSchedule_and_rightLength_iff]
  exact ⟨Iff.rfl, fun legal ⟨_, absent⟩ => legal.resolve_right absent⟩

/-- Settles O30, from O26 and O28 and the errors of R41. -/
theorem statusesOfEachCommand : Obligations.StatusesOfEachCommand := by
  intro i s t r wf h answer
  obtain ⟨key, block, -⟩ := keyAndBlockLengthErrors i s t r h answer
  obtain ⟨schedule, -⟩ := scheduleLengthError i s t r h answer
  have status := exec_status h answer
  rw [Response.st]
  match hst : r.status with
  | .ok => exact .inl rfl
  | .error .invalidKeyLength =>
    obtain ⟨isKsched, -⟩ := key.mp hst
    exact .inr (.inl ⟨isKsched, rfl⟩)
  | .error .invalidBlockLength =>
    obtain ⟨isBlock, -⟩ := block.mp hst
    exact .inr (.inr (.inl ⟨isBlock, .inl rfl⟩))
  | .error .invalidScheduleLength =>
    obtain ⟨⟨isBlock, -⟩ | ⟨isRdrk, -⟩, -⟩ := schedule.mp hst
    · exact .inr (.inr (.inl ⟨isBlock, .inr rfl⟩))
    · exact .inr (.inr (.inr (.inl ⟨isRdrk, .inr rfl⟩)))
  | .error .illegalCommand =>
    have ill := commandStatus_eq_illegalCommand_iff.mp (status.symm.trans hst)
    simp [wf] at ill
  | .error .invalidOperandLength =>
    obtain ⟨-, -, error⟩ :=
      (commandStatus_eq_lengthError_iff _ (by decide) (by decide)).mp (status.symm.trans hst)
    obtain ⟨notKsched, notEnc, notDec⟩ := payloadError_eq_invalidOperandLength_iff.mp error
    exact .inr (.inr (.inr (.inr ⟨notKsched, notEnc, notDec, rfl⟩)))

end Sys2Proof.Machine
end

section
/-! SUPPORT. Reset and hazards (70_reset_and_hazards.md): what each command answers right after a reset (R190),
and that SLEN stays 0 along every run without a KSCHED of 32 bytes (R192). -/

namespace Sys2Proof.Machine

/-! ## After a reset -/

/-- A command that needs no schedule succeeds on every payload of its length, whatever SLEN is. -/
theorem exec_noScheduleNeeded (i : Instr) {s : State} (wf : i.wf = true) (free : needsSchedule i = false)
    (right : s.pin.length = payloadBytes i) :
    ∃ u q, exec i s = .next u ∧ u.outbox = s.outbox ++ [⟨.ok, q⟩] := by
  obtain ⟨u, hu⟩ := exec_endsInNext i s
  obtain ⟨q, answer⟩ := (exec_next hu).answers_status
  have status : commandStatus i s = .ok := by simp [commandStatus, wf, right, free]
  exact ⟨u, q, hu, status ▸ answer⟩

/-- Settles O8: PIN is empty and SLEN is 0 after the reset. -/
theorem resetEffect : Obligations.ResetEffect := by
  intro s rest event
  have absent : (s.takeReset rest).slen ≠ 32 := by simp
  refine ⟨s.takeReset rest, step_reset event, rfl, rfl, rfl, rfl, exec_rdsl_answers rfl, fun i p wf right =>
    ⟨fun needs => ?fails, fun free => ?works⟩⟩
  case fails => exact exec_noSchedule i wf needs right absent
  case works => exact exec_noScheduleNeeded i wf free right

/-! ## Runs without a schedule -/

theorem run_succ {M : Host.Core} {k : Nat} {s u : M.State} (h : M.step s = .next u) :
    M.run (k + 1) s = M.run k u := by
  rw [Host.Core.run, h]

/-- What every step keeps holds after every run. -/
theorem run_keeps {P : State → Prop} (keeps : ∀ s t, P s → step s = .next t → P t) {k : Nat} {s t : State}
    (hs : P s) (h : Host.Core.run Sys2Proof.core k s = .next t) : P t := by
  induction k generalizing s with
  | zero =>
    cases h
    exact hs
  | succ k ih =>
    obtain ⟨u, hu⟩ := step_endsInNext s
    exact ih (keeps s u hs hu) ((run_succ (M := Sys2Proof.core) hu).symm.trans h)

/-- A step takes at most the next event, and the CORE adds none (R196). -/
theorem step_inbox {s t : State} (h : step s = .next t) : t.inbox = s.inbox.tail := by
  rcases step_next h with ⟨hi, rfl⟩ | ⟨rest, hi, rfl⟩ | ⟨_, _, _, _, hi, -, rfl⟩ | ⟨_, _, _, i, hi, -, hx⟩
  · simp [hi]
  · simp [hi]
  · simp [hi]
  · obtain ⟨-, inbox, -⟩ := commandFrame i _ t hx
    simp [hi, inbox]

/-- There is no schedule, and no event to come derives one. -/
structure State.NoScheduleAhead (s : State) : Prop where
  absent : s.slen = 0
  keyless : ∀ key, HostEvent.command 0x0008 key ∈ s.inbox → key.length ≠ 32

theorem step_slen_zero {s t : State} (hs : s.NoScheduleAhead) (h : step s = .next t) : t.slen = 0 := by
  by_contra present
  obtain ⟨-, writer⟩ := onlyKschedAndResetWriteTheStore s t h
  rcases writer (.inr (hs.absent ▸ present)) with ⟨rest, event⟩ | ⟨key, rest, event, right⟩
  · rw [step_reset event] at h
    cases h
    exact present rfl
  · exact hs.keyless key (by simp [event]) right

theorem step_noScheduleAhead (s t : State) (hs : s.NoScheduleAhead) (h : step s = .next t) :
    t.NoScheduleAhead where
  absent := step_slen_zero hs h
  keyless key hk := hs.keyless key (List.mem_of_mem_tail (step_inbox h ▸ hk))

/-- Settles O36, by an invariant of every step: only a reset and a KSCHED of 32 bytes write SLEN (O35). -/
theorem noScheduleWithoutKsched : Obligations.NoScheduleWithoutKsched := fun _ _ _ absent keyless h =>
  (run_keeps step_noScheduleAhead ⟨absent, keyless⟩ h).absent

end Sys2Proof.Machine
end
